-- ==== Sys2Proof/Word.lean ====
section
/-! DEFINITION. The two word types of the core: the byte of the memory windows and of OUT, and the 32-bit word of the
registers, of a command and of a bus access (10_state.md, 20_memory.md R60, R66). -/

namespace Sys2Proof

/-- A `u8`: one byte of PIXMEM, CMTBUF, OUT, a palette entry's channel, a palette index. -/
abbrev Byte := BitVec 8

/-- A `u32`: one register, one command word, one bus access's data. -/
abbrev Word := BitVec 32

end Sys2Proof
end

