-- ==== Sys2Proof/Machine/Datapath.lean ====
section
/-! DEFINITION. The datapath state, internal to the core and not host-visible, as plain data (10_state.md R49 to R52). It stands
before Config, because after reset and between commands the whole of it is one draw (log 9). -/

namespace Sys2Proof.Machine

/-- One entry of NET: a colour with 4 fraction bits per channel during training, and a colour number (R50). The channels are
s32 registers whose values never leave s32 (41_quantizer.md R141), so they are integers (log 11). -/
structure Neuron where
  /-- c[0], red (41_quantizer.md R143). -/
  c0 : Int
  /-- c[1], green, the sort channel. -/
  c1 : Int
  /-- c[2], blue. -/
  c2 : Int
  /-- The colour number, a u8. -/
  idx : Byte
  deriving DecidableEq, Repr, Inhabited

/-- The quantizer's state (R50). The lists are the arrays, position 0 first. -/
structure Quant where
  /-- NET[0..255]. -/
  net : List Neuron
  /-- FREQ[0..255]. -/
  freq : List Int
  /-- BIAS[0..255]. -/
  bias : List Int
  /-- RADPOWER[0..31]. -/
  radpower : List Nat
  /-- NETINDEX[0..255]. -/
  netindex : List Byte
  /-- ALPHA. -/
  alpha : Nat
  /-- RADIUS. -/
  radius : Nat
  /-- RAD. -/
  rad : Nat
  /-- ALPHADEC. -/
  alphadec : Nat
  /-- SAMPLEPIXELS. -/
  samplepixels : Nat
  /-- DELTA. -/
  delta : Nat
  /-- STEP. -/
  stride : Nat
  /-- PIX. -/
  pix : Nat
  /-- I. -/
  i : Nat
  /-- Q_EFF. -/
  qEff : Nat
  deriving DecidableEq, Repr, Inhabited

/-- One entry of DICT: the code of the string that `pre` stands for followed by `suffix` (42_lzw.md R204). -/
structure DictEntry where
  /-- The prefix code, 0 to 4095. -/
  pre : Nat
  /-- The next palette index. -/
  suffix : Byte
  /-- The code of the longer string, 258 to 4095. -/
  code : Nat
  deriving DecidableEq, Repr, Inhabited

/-- The LZW state (R51). -/
structure Lzw where
  /-- DICT: a partial map, as its entries, the newest first; no two have the same prefix code and suffix. -/
  dict : List DictEntry
  /-- FREE_ENT, 0 to 4096. -/
  freeEnt : Nat
  /-- N_BITS, 9 to 12. -/
  nBits : Nat
  /-- MAXCODE. -/
  maxcode : Nat
  /-- CLEAR_FLG. -/
  clearFlg : Bool
  /-- ENT, 0 to 4095. -/
  ent : Nat
  /-- ACC, a u32. -/
  acc : Word
  /-- ACC_BITS, 0 to 19. -/
  accBits : Nat
  /-- PKT[0 .. PKT_COUNT−1], the oldest byte first; PKT_COUNT is its length. -/
  pkt : List Byte
  /-- POS, 0 to N. -/
  pos : Nat
  deriving DecidableEq, Repr, Inhabited

/-- Everything R49 to R51 name. No command reads any of it before writing it (R52). It is inhabited, so that a draw of it can be
a constant with no body (Config). -/
structure Datapath where
  /-- S, the sample buffer. -/
  samples : List Byte
  /-- IDX, the IndexedPixelArray. -/
  indices : List Byte
  /-- PALETTE[0..767]. -/
  palette : List Byte
  /-- TIDX. -/
  tidx : Byte
  /-- NET, FREQ, BIAS, RADPOWER, NETINDEX and the training scalars. -/
  quant : Quant
  /-- The dictionary, the code width, the bit accumulator and the sub-block FIFO. -/
  lzw : Lzw
  deriving DecidableEq, Repr, Inhabited

/-- What State holds of the datapath: its values while a frame is worked on, or, after reset and after every command, a draw that
nobody has looked at, by its number (R52; what it reads as: `State.datapath`). A draw stands as its number so that State stays
plain data; the value it has is a constant with no body (log 9). -/
inductive DatapathContents where
  /-- These values. -/
  | values (d : Datapath)
  /-- The `n`-th draw. -/
  | draw (n : Nat)
  deriving DecidableEq, Repr

end Sys2Proof.Machine
end

