-- ==== Sys2Proof/Config.lean ====
section
/-! DEFINITION. What one built core fixes (00_scope.md R8, R9, R10; 41_quantizer.md R140; 42_lzw.md R200) and the free
values the spec leaves open (00_scope.md R17, "draw"). A free value has no body: nothing can be proved of it. -/

namespace Sys2Proof.Config

/-- The implementation parameters a core is built with (R9), as the PRM registers report them (10_state.md R45). No step
changes them; they are an argument of the model, carried in State (log 1). DM_TAIL and CMD_LATENCY, the other two
parameters of R9, are `dmTail` below and State's `latencies`. -/
structure Params where
  /-- MAX_PIXELS, 1 to 2^28: the largest W·H that CONFIGURE accepts. -/
  maxPixels : Nat
  /-- OUT_CAP, 32 to 2^30: the bytes OUTMEM holds. -/
  outCap : Nat
  /-- SUBBLOCK_MAX, 1 to 255: the bytes of one LZW data sub-block. -/
  subblockMax : Nat
  deriving DecidableEq, Repr

/-- The spec's own defaults (R9, table). DESIGN CHOICE, log 1: State.reset is a core built with them. -/
def defaultParams : Params := { maxPixels := 2 ^ 22, outCap := 2 ^ 26, subblockMax := 255 }

/-! ### Constants of the quantizer, R140 -/

/-- NETSIZE: neurons, and palette entries. -/
def netSize : Nat := 256
/-- NCYCLES: decay cycles. -/
def nCycles : Nat := 100
/-- The stride primes, in the order they are tried. -/
def prime1 : Nat := 499
/-- PRIME2. -/
def prime2 : Nat := 491
/-- PRIME3. -/
def prime3 : Nat := 487
/-- PRIME4. -/
def prime4 : Nat := 503
/-- MINPICTUREBYTES = 3·PRIME4: the small-frame threshold on L. -/
def minPictureBytes : Nat := 3 * prime4
/-- NETBIASSHIFT: fraction bits of a neuron channel. -/
def netBiasShift : Nat := 4
/-- INTBIASSHIFT: fraction bits of FREQ and BIAS. -/
def intBiasShift : Nat := 16
/-- INTBIAS. -/
def intBias : Nat := 2 ^ intBiasShift
/-- GAMMASHIFT. -/
def gammaShift : Nat := 10
/-- BETASHIFT. -/
def betaShift : Nat := 10
/-- BETA = INTBIAS >> BETASHIFT = 64. -/
def beta : Nat := intBias / 2 ^ betaShift
/-- BETAGAMMA = INTBIAS << (GAMMASHIFT − BETASHIFT) = 65536. -/
def betaGamma : Nat := intBias * 2 ^ (gammaShift - betaShift)
/-- RADIUSBIASSHIFT. -/
def radiusBiasShift : Nat := 6
/-- INITRAD = NETSIZE >> 3. -/
def initRad : Nat := netSize / 8
/-- INITRADIUS = INITRAD << RADIUSBIASSHIFT. -/
def initRadius : Nat := initRad * 2 ^ radiusBiasShift
/-- RADIUSDEC: the radius decay divisor. -/
def radiusDec : Nat := 30
/-- ALPHABIASSHIFT. -/
def alphaBiasShift : Nat := 10
/-- INITALPHA. -/
def initAlpha : Nat := 2 ^ alphaBiasShift
/-- RADBIASSHIFT. -/
def radBiasShift : Nat := 8
/-- RADBIAS. -/
def radBias : Nat := 2 ^ radBiasShift
/-- ALPHARADBIAS = 1 << (ALPHABIASSHIFT + RADBIASSHIFT). -/
def alphaRadBias : Nat := 2 ^ (alphaBiasShift + radBiasShift)

/-! ### Constants of the LZW code, R200 -/

/-- MIN_CODE_SIZE, also the byte that opens an Image Data block (43_container.md R256). -/
def minCodeSize : Nat := 8
/-- CLEAR = 2^MIN_CODE_SIZE. -/
def clearCode : Nat := 256
/-- EOI = CLEAR + 1. -/
def eoiCode : Nat := 257
/-- FIRST_FREE = EOI + 1. -/
def firstFree : Nat := 258
/-- MAX_CODES. -/
def maxCodes : Nat := 4096
/-- INIT_BITS = MIN_CODE_SIZE + 1. -/
def initBits : Nat := 9

/-! ### Free values (draws, R17) -/

/-- The byte that power-on reset number `epoch` leaves at host offset `off` of PIXMEM or CMTBUF, which the host then reads
until it writes that byte (20_memory.md R64, R70; 70_reset_and_hazards.md R370; 93 I4 "drawn once at reset"). Free value,
log 5. -/
opaque powerOnByte (epoch off : Nat) : Byte

/-- The byte that power-on reset number `epoch` leaves in `COMMENT[k]` (10_state.md R46). Free value, log 10. -/
opaque powerOnComment (epoch k : Nat) : Byte

/-- The `n`-th draw, where a byte is drawn: a read of OUTMEM at or above OUT_LEN, or while BUSY = 1 (20_memory.md R63, R68).
Free value, logs 6 and 17. -/
opaque drawByte (n : Nat) : Byte

/-- The `n`-th draw, where a register's value is drawn: a volatile register read while BUSY = 1 (20_memory.md R68). Free
value, log 17. -/
opaque drawWord (n : Nat) : Word

/-- The `n`-th draw, where it is DM_TAIL, the bytes of a DimensionMismatch: any finite byte sequence, maybe empty
(00_scope.md R9, 45_cmd_session.md R316). Free value, log 8. -/
opaque dmTail (n : Nat) : List Byte

/-- The `n`-th draw, where it is the datapath state that stands after power-on reset or after a command (10_state.md R52;
70_reset_and_hazards.md R370; 93 I4, I12). Free value, log 9. -/
opaque drawDatapath (n : Nat) : Machine.Datapath

/-- WIDTH as ENCODE_FRAME uses it in a program with no CONFIGURE statement before it, where 30_encoding.md R107 gives none.
DESIGN CHOICE: a free value, log 19. -/
opaque unconfiguredWidth : Word

/-- HEIGHT as ENCODE_FRAME uses it in a program with no CONFIGURE statement before it, where 30_encoding.md R107 gives none.
DESIGN CHOICE: a free value, log 19. -/
opaque unconfiguredHeight : Word

end Sys2Proof.Config
end

