-- ==== Sys2Proof/Syntax.lean ====
section
/-! DEFINITION. The instructions: the thirteen commands of 30_encoding.md R93, one constructor per row of
spec/opcode_table.json. A command has no operand fields (R92): its operands are ARG0 and ARG1 in State. -/

namespace Sys2Proof

/-- One command (30_encoding.md R93). -/
inductive Instr where
  /-- 0x00 NOP (R328). -/
  | nop
  /-- 0x01 CONFIGURE (R282). -/
  | configure
  /-- 0x02 SET_QUALITY (R285). -/
  | setQuality
  /-- 0x03 SET_DELAY (R287). -/
  | setDelay
  /-- 0x04 SET_FRAME_RATE (R289). -/
  | setFrameRate
  /-- 0x05 SET_REPEAT (R291). -/
  | setRepeat
  /-- 0x06 SET_DISPOSAL (R292). -/
  | setDisposal
  /-- 0x07 SET_TRANSPARENT (R293). -/
  | setTransparent
  /-- 0x08 SET_COMMENT (R295). -/
  | setComment
  /-- 0x10 START (R310). -/
  | start
  /-- 0x11 ADD_FRAME (R312). -/
  | addFrame
  /-- 0x12 FINISH (R320). -/
  | finish
  /-- 0x1F RESET_SESSION (R325). -/
  | resetSession
  deriving DecidableEq, Repr

namespace Instr

/-- All thirteen commands, in the order of the opcode table. -/
def all : List Instr :=
  [.nop, .configure, .setQuality, .setDelay, .setFrameRate, .setRepeat, .setDisposal, .setTransparent, .setComment,
   .start, .addFrame, .finish, .resetSession]

/-- The setting commands, the family of 44_cmd_config.md, whose first step is CheckSettable (R280). -/
def isSetting : Instr → Bool
  | .configure | .setQuality | .setDelay | .setFrameRate | .setRepeat | .setDisposal | .setTransparent | .setComment => true
  | .nop | .start | .addFrame | .finish | .resetSession => false

end Instr

end Sys2Proof
end

