-- ==== Sys2Proof/WellFormed.lean ====
section
/-! DEFINITION. What is well formed: every `Instr` (a command has no operand field that could be out of range, 30_encoding.md
R92, R98), a command word (R90, R91), and the parameters a core may be built with (00_scope.md R9). -/

namespace Sys2Proof

/-- Every command is well formed: R92, R98 give it no field. -/
def Instr.wellFormed : Instr → Bool
  | .nop | .configure | .setQuality | .setDelay | .setFrameRate | .setRepeat | .setDisposal | .setTransparent | .setComment
  | .start | .addFrame | .finish | .resetSession => true

/-- The opcodes that R93 assigns. -/
def assignedOpcodes : List Byte :=
  [0x00, 0x01, 0x02, 0x03, 0x04, 0x05, 0x06, 0x07, 0x08, 0x10, 0x11, 0x12, 0x1F]

/-- A command word the core executes: RSV (bits 31:8) is zero and OPCODE (bits 7:0) is assigned (R90, R91, R96). -/
def wordWellFormed (w : Word) : Bool :=
  w.extractLsb' 8 24 == 0 && assignedOpcodes.contains (w.extractLsb' 0 8)

/-- The ranges of R9. -/
def Config.Params.wellFormed (p : Config.Params) : Bool :=
  decide (1 ≤ p.maxPixels ∧ p.maxPixels ≤ 2 ^ 28 ∧ 32 ≤ p.outCap ∧ p.outCap ≤ 2 ^ 30 ∧ 1 ≤ p.subblockMax ∧ p.subblockMax ≤ 255)

end Sys2Proof
end

