-- ==== Sys2Proof/Decode.lean ====
section
/-! DEFINITION. Decoding a command word (30_encoding.md R90, R91, R93, R96), then the encoder (R93, R103). -/

namespace Sys2Proof

/-- Why a word is no command (R96). -/
inductive Reject where
  /-- Bits 31:8 are not all zero. -/
  | reservedBits
  /-- Bits 31:8 are zero and bits 7:0 are no opcode of R93. -/
  | unassignedOpcode
  deriving DecidableEq, Repr

/-- What the decoder reads from a word. -/
inductive Decoded where
  /-- The word is this command. -/
  | command (i : Instr)
  /-- The word is illegal, for this reason; the core then does the illegal-command action (R91). -/
  | illegal (why : Reject)
  deriving DecidableEq, Repr

/-- The OPCODE field, bits 7:0 (R90). -/
def opcodeField (w : Word) : Byte := w.extractLsb' 0 8

/-- The RSV field, bits 31:8 (R90). -/
def rsvField (w : Word) : BitVec 24 := w.extractLsb' 8 24

/-- The command an opcode selects (R93). -/
def instrOfOpcode (op : Byte) : Option Instr :=
  if op = 0x00 then some .nop
  else if op = 0x01 then some .configure
  else if op = 0x02 then some .setQuality
  else if op = 0x03 then some .setDelay
  else if op = 0x04 then some .setFrameRate
  else if op = 0x05 then some .setRepeat
  else if op = 0x06 then some .setDisposal
  else if op = 0x07 then some .setTransparent
  else if op = 0x08 then some .setComment
  else if op = 0x10 then some .start
  else if op = 0x11 then some .addFrame
  else if op = 0x12 then some .finish
  else if op = 0x1F then some .resetSession
  else none

/-- Decoding is a function of the word alone (R91). -/
def decode (w : Word) : Decoded :=
  if rsvField w ≠ 0 then .illegal .reservedBits
  else
    match instrOfOpcode (opcodeField w) with
    | some i => .command i
    | none => .illegal .unassignedOpcode

/-- The word made of the low `nbits` bits of `w`: bits 7:0 in the first byte, as the little-endian host bus carries them
(20_memory.md R67, R72). Every command is 32 bits, so a table row's `w` is the word itself. -/
def tableWord (nbits w : Nat) : Word := BitVec.ofNat 32 (w % 2 ^ nbits)

/-- What the decoder reads from an instruction whose bits, numbered as spec/opcode_table.json numbers them, are `w`. -/
def decodeTableWord (nbits w : Nat) : Option Instr :=
  match decode (tableWord nbits w) with
  | .command i => some i
  | .illegal _ => none

/-! ### The encoder -/

/-- The OPCODE of a command (R93). -/
def opcode : Instr → Byte
  | .nop => 0x00
  | .configure => 0x01
  | .setQuality => 0x02
  | .setDelay => 0x03
  | .setFrameRate => 0x04
  | .setRepeat => 0x05
  | .setDisposal => 0x06
  | .setTransparent => 0x07
  | .setComment => 0x08
  | .start => 0x10
  | .addFrame => 0x11
  | .finish => 0x12
  | .resetSession => 0x1F

/-- The one word of a command: RSV zero above its OPCODE (R90). -/
def encode (i : Instr) : Word := (0 : BitVec 24) ++ opcode i

end Sys2Proof
end

