-- ==== Sys2Proof/Machine/State.lean ====
section
/-! DEFINITION. The state of the core and of the host port that drives it, as plain data (10_state.md, 20_memory.md), the
reasons a step could stop, and the state after power-on reset (10_state.md R56, 70_reset_and_hazards.md R370). -/

namespace Sys2Proof.Machine

/-- A byte-addressable memory: the bytes somebody wrote, with their addresses strictly rising (`Memory.wf`, in Ops). An
address that is not listed holds a draw (log 5), not a fixed byte, so writing a byte always lists it. -/
abbrev Memory := List Host.Cell

/-- STATUS.STATE (10_state.md R29). The encoding 3 is never held, so it has no constructor. -/
inductive Lifecycle where
  /-- 0 UNCONFIGURED. -/
  | unconfigured
  /-- 1 STARTED. -/
  | started
  /-- 2 FINISHED. -/
  | finished
  deriving DecidableEq, Repr

/-- The values of ERRCODE (60_exceptions.md R340). Codes 8 to 15 are never written, so they have no constructor. -/
inductive ErrorCode where
  /-- 0: the last command completed. -/
  | none
  /-- 1: an operand out of range, a setting after the lock, or ADD_FRAME with no geometry. -/
  | configurationError
  /-- 2: kept for the source's taxonomy; no rule raises it (R348). -/
  | quantizerInitError
  /-- 3: kept for the source's taxonomy; no rule raises it (R348). -/
  | compressorInitError
  /-- 4: ARG0 ≠ 4·WIDTH·HEIGHT at ADD_FRAME. -/
  | dimensionMismatch
  /-- 5: FMT ≠ 0 at ADD_FRAME. -/
  | invalidInputType
  /-- 6: a command in the wrong lifecycle state, or while FATAL = 1. -/
  | invalidState
  /-- 7: a CMD word that is no command. -/
  | illegalCommand
  deriving DecidableEq, Repr

/-- The settings, EncoderSettings: the CFG registers (10_state.md R38 to R44). -/
structure Settings where
  /-- CFG_GEOM bits 15:0 (R38). -/
  width : BitVec 16
  /-- CFG_GEOM bits 31:16 (R38). -/
  height : BitVec 16
  /-- CFG_QUALITY bits 4:0, the sample factor (R39). -/
  quality : BitVec 5
  /-- CFG_DELAY bits 15:0, in centiseconds (R40). -/
  delay : BitVec 16
  /-- CFG_REPEAT, an s32 (R41). -/
  loops : Word
  /-- CFG_DISPOSAL bits 2:0 (R42). -/
  disposal : BitVec 3
  /-- CFG_TRANSP bits 23:0, 0xRRGGBB (R43). -/
  transpRgb : BitVec 24
  /-- CFG_TRANSP bit 24 (R43). -/
  transpEn : Bool
  /-- CFG_COMMENT_LEN bits 7:0 (R44). -/
  commentLen : BitVec 8
  deriving DecidableEq, Repr

/-- The settings after either reset (70_reset_and_hazards.md R371). -/
def Settings.initial : Settings :=
  { width := 0, height := 0, quality := 10, delay := 0, loops := 0xFFFFFFFF, disposal := 0, transpRgb := 0, transpEn := false,
    commentLen := 0 }

/-! ### The host port -/

/-- One thing the host, or the platform's reset input, does to the core. The primitive statements of 30_encoding.md R102 with
the two loops R104 and R109 give the host, and power-on reset (70_reset_and_hazards.md R370). -/
inductive BusOp where
  /-- `MemWrite(off, size, v)` (20_memory.md R67): the low `8·size` bits of `v`. -/
  | write (off : Word) (size : Nat) (v : Word)
  /-- `MemRead(off, size)` (20_memory.md R67). -/
  | read (off : Word) (size : Nat)
  /-- WAIT: read STATUS again and again until BUSY = 0 (30_encoding.md R104). -/
  | wait
  /-- READ_OUT: read OUT_LEN, then that many bytes of OUTMEM (30_encoding.md R109). -/
  | readOut
  /-- EXPECT: the last data read is `v`; no bus access (30_encoding.md R102). -/
  | expect (v : Word)
  /-- Power-on reset, at any time (70_reset_and_hazards.md R370). -/
  | powerOnReset
  deriving DecidableEq, Repr

/-- The bus's answer to one access (20_memory.md R71). -/
inductive BusResponse where
  /-- A read's data, zero-extended to 32 bits. -/
  | data (v : Word)
  /-- A write was taken. -/
  | accepted
  /-- The access was refused: an error response, no data, no state change. -/
  | busError
  deriving DecidableEq, Repr

/-- A command between its CMD write and the fall of BUSY (10_state.md R23, R27; 70_reset_and_hazards.md R384). -/
structure InFlight where
  /-- The word written to CMD. -/
  word : Word
  /-- How many more host operations are served while BUSY = 1 (CMD_LATENCY, R385; log 3). -/
  remaining : Nat
  deriving DecidableEq, Repr

/-! ### The state -/

/-- The core, the memories of its map, and the host port. -/
structure State where
  /-- PRM_MAX_PIXELS, PRM_OUT_CAP, PRM_SUBBLOCK_MAX (10_state.md R45): constants of this core (log 1). -/
  prm : Config.Params
  /-- ARG0 (10_state.md R24). -/
  arg0 : Word
  /-- ARG1 (10_state.md R25). -/
  arg1 : Word
  /-- The command in flight; STATUS.BUSY = 1 exactly while there is one (10_state.md R27). -/
  executing : Option InFlight
  /-- STATUS.RESULT (10_state.md R28). -/
  result : Bool
  /-- STATUS.STATE (10_state.md R29). -/
  lifecycle : Lifecycle
  /-- STATUS.GEOM_SET (10_state.md R30). -/
  geomSet : Bool
  /-- STATUS.LOCKED (10_state.md R31). -/
  locked : Bool
  /-- STATUS.BUF_INVALID (10_state.md R32). -/
  bufInvalid : Bool
  /-- STATUS.FATAL (10_state.md R33); no rule sets it (log 14). -/
  fatal : Bool
  /-- STATUS.OVF (10_state.md R34). -/
  ovf : Bool
  /-- ERRCODE (10_state.md R35). -/
  errcode : ErrorCode
  /-- FRAME_COUNT, a u32 that wraps (10_state.md R37). -/
  frameCount : Word
  /-- The CFG registers (10_state.md R38 to R44). -/
  cfg : Settings
  /-- COMMENT[0..254], keyed by index (10_state.md R46, log 10). -/
  comment : Memory
  /-- CMTBUF and PIXMEM, keyed by host offset (20_memory.md R60, R62, R64; log 5). -/
  mem : Memory
  /-- OUT = OUTMEM[0 .. OUT_LEN−1]; OUT_LEN is its length (10_state.md R36, R53; 20_memory.md R63; log 6). -/
  out : List Byte
  /-- The datapath state (10_state.md R49 to R51). After reset and between commands it is a draw (R52): the end of every command
  draws it anew (log 9). -/
  dp : DatapathContents
  /-- The model's own: how many power-on resets there have been (log 7). -/
  epoch : Nat
  /-- The model's own: how many draws have been taken (log 7). -/
  draws : Nat
  /-- The model's own: CMD_LATENCY of the coming commands, the next one first; where none is listed, 0 (log 3). -/
  latencies : List Nat
  /-- The model's own: what the host still has to do, the next first (log 2). -/
  program : List BusOp
  /-- The model's own: the bus's last answer (log 2). -/
  response : Option BusResponse
  /-- The model's own: every EXPECT so far held (log 19). -/
  expectOk : Bool
  deriving DecidableEq, Repr

/-- The core right after power-on reset (10_state.md R56, 70_reset_and_hazards.md R370, R371): a core built with the default
parameters, no byte written, the datapath drawn (log 9), the host with nothing to do. -/
def State.reset : State :=
  { prm := Config.defaultParams, arg0 := 0, arg1 := 0, executing := none, result := true, lifecycle := .unconfigured,
    geomSet := false, locked := false, bufInvalid := false, fatal := false, ovf := false, errcode := .none, frameCount := 0,
    cfg := Settings.initial, comment := [], mem := [], out := [], dp := .draw 0, epoch := 0, draws := 1,
    latencies := [], program := [], response := none, expectOk := true }

/-- Why a step stops with a fault. NONE: this hardware has no trap, and every error of the spec is a next state
(60_exceptions.md R345, R346; 20_memory.md R71). Nobody raises one; a closed inductive with no constructor (log 15). -/
inductive Fault where
  deriving DecidableEq, Repr

/-- Why an instruction has no meaning. No arm of `exec` uses it any more (log 15). -/
inductive Refusal where
  /-- Raised by an arm of `exec` whose instruction has no meaning yet; safe: the run stops. None is left. -/
  | notModelled (mnemonic : String)
  deriving DecidableEq, Repr

end Sys2Proof.Machine
end

