-- ==== Sys2Proof/Machine/Operands.lean ====
section
/-! DEFINITION. Operand forms and number forms: the readings of ARG0 and ARG1 (30_encoding.md R92, R94, R95), the integer
operations of 00_scope.md R12 to R14, and the little-endian forms of 20_memory.md R67 and R72. -/

namespace Sys2Proof.Machine

/-! ### Operands -/

/-- ARG0 as a u32 (R94). -/
def State.arg0U (s : State) : Nat := s.arg0.toNat

/-- ARG1 as a u32 (R94). -/
def State.arg1U (s : State) : Nat := s.arg1.toNat

/-- A register read as s32: `v − 2^32` when bit 31 is set, `v` otherwise (R95). -/
def s32 (v : Word) : Int := if v.getLsbD 31 then (v.toNat : Int) - 2 ^ 32 else v.toNat

/-- ARG0 as an s32, the reading of SET_REPEAT (R95). -/
def State.arg0S (s : State) : Int := s32 s.arg0

/-! ### Integer operations (00_scope.md R13) -/

/-- `a fdiv b`, rounded down; used with `a ≥ 0` and `b > 0`. -/
def fdiv (a b : Nat) : Nat := a / b

/-- `a tdiv b`, truncated toward zero; used with `b > 0`. -/
def tdiv (a b : Int) : Int := Int.tdiv a b

/-- `a >> n`, the arithmetic shift: `floor (a / 2^n)` for every integer `a`. -/
def asr (a : Int) (n : Nat) : Int := a / 2 ^ n

/-- `|a|`. -/
def absInt (a : Int) : Int := if a < 0 then -a else a

/-! ### Bytes -/

/-- A natural number stored in a u8 (R12). -/
def byteOfNat (n : Nat) : Byte := BitVec.ofNat 8 n

/-- An integer stored in a u8 (R12). -/
def byteOfInt (n : Int) : Byte := BitVec.ofInt 8 n

/-- `le16 v` (R14). -/
def le16 (v : BitVec 16) : List Byte := [v.extractLsb' 0 8, v.extractLsb' 8 8]

/-- The `n` bytes that `MemWrite(a, n, v)` stores, the one at `a` first (20_memory.md R67). -/
def leBytes (n : Nat) (v : Word) : List Byte := (List.range n).map fun i => v.extractLsb' (8 * i) 8

/-- The number whose little-endian bytes are these: `sum of byte(i) · 2^(8·i)` (20_memory.md R67). -/
def leNat : List Byte → Nat
  | [] => 0
  | b :: bs => b.toNat + 256 * leNat bs

/-- The data of a read of these bytes, zero-extended to 32 bits (20_memory.md R67). -/
def leWord (bs : List Byte) : Word := BitVec.ofNat 32 (leNat bs)

/-- TRANSP_RGB bits 23:16 (10_state.md R43). -/
def redOf (rgb : BitVec 24) : Byte := rgb.extractLsb' 16 8

/-- TRANSP_RGB bits 15:8. -/
def greenOf (rgb : BitVec 24) : Byte := rgb.extractLsb' 8 8

/-- TRANSP_RGB bits 7:0. -/
def blueOf (rgb : BitVec 24) : Byte := rgb.extractLsb' 0 8

end Sys2Proof.Machine
end

