-- ==== Sys2Proof/Machine/Flags.lean ====
section
/-! DEFINITION. STATUS, ERRCODE and the CFG registers as the words a host reads (10_state.md R26 to R45, R47;
60_exceptions.md R340). -/

namespace Sys2Proof.Machine

/-- STATUS.BUSY (10_state.md R27). -/
def State.busy (s : State) : Bool := s.executing.isSome

/-- The two bits of STATUS.STATE (10_state.md R29). -/
def lifecycleBits : Lifecycle → BitVec 2
  | .unconfigured => 0
  | .started => 1
  | .finished => 2

/-- The error code numbers (60_exceptions.md R340). -/
def errorBits : ErrorCode → BitVec 4
  | .none => 0
  | .configurationError => 1
  | .quantizerInitError => 2
  | .compressorInitError => 3
  | .dimensionMismatch => 4
  | .invalidInputType => 5
  | .invalidState => 6
  | .illegalCommand => 7

/-- STATUS (10_state.md R26): bits 31:9 reserved and 0, then OVF, FATAL, BUF_INVALID, LOCKED, GEOM_SET, STATE, RESULT, BUSY. -/
def State.statusWord (s : State) : Word :=
  (0 : BitVec 23) ++ BitVec.ofBool s.ovf ++ BitVec.ofBool s.fatal ++ BitVec.ofBool s.bufInvalid ++ BitVec.ofBool s.locked
    ++ BitVec.ofBool s.geomSet ++ lifecycleBits s.lifecycle ++ BitVec.ofBool s.result ++ BitVec.ofBool s.busy

/-- ERRCODE (10_state.md R35). -/
def State.errcodeWord (s : State) : Word := (0 : BitVec 28) ++ errorBits s.errcode

/-- OUT_LEN (10_state.md R36). -/
def State.outLen (s : State) : Nat := s.out.length

/-- CFG_GEOM (10_state.md R38). -/
def Settings.geomWord (c : Settings) : Word := c.height ++ c.width

/-- CFG_QUALITY (10_state.md R39). -/
def Settings.qualityWord (c : Settings) : Word := (0 : BitVec 27) ++ c.quality

/-- CFG_DELAY (10_state.md R40). -/
def Settings.delayWord (c : Settings) : Word := (0 : BitVec 16) ++ c.delay

/-- CFG_DISPOSAL (10_state.md R42). -/
def Settings.disposalWord (c : Settings) : Word := (0 : BitVec 29) ++ c.disposal

/-- CFG_TRANSP (10_state.md R43). -/
def Settings.transpWord (c : Settings) : Word := (0 : BitVec 7) ++ BitVec.ofBool c.transpEn ++ c.transpRgb

/-- CFG_COMMENT_LEN (10_state.md R44). -/
def Settings.commentLenWord (c : Settings) : Word := (0 : BitVec 24) ++ c.commentLen

/-- N = WIDTH·HEIGHT, exact (10_state.md R49). -/
def Settings.pixels (c : Settings) : Nat := c.width.toNat * c.height.toNat

end Sys2Proof.Machine
end

