-- ==== Sys2Proof/Machine/Ops.lean ====
section
/-! DEFINITION. The shared operations: the sparse memory, PixRead and the comment store (20_memory.md R64, R67, R70), Append
(R69), the recording of a result or an error, which is this hardware's exception entry (60_exceptions.md R345), SessionReset
and power-on reset (70_reset_and_hazards.md R370, R371), and CheckSettable (44_cmd_config.md R280). -/

namespace Sys2Proof.Machine

/-! ### Memory -/

/-- The canonical form: addresses strictly rising. An unlisted address has no value of its own (it is a draw), so there is no
entry that could equal it (log 5). -/
abbrev Memory.wf (m : Memory) : Prop := m.Pairwise fun a b => a.1 < b.1

/-- The byte written last at an address, if any was. -/
def Memory.lookup : Memory → Nat → Option Byte
  | [], _ => none
  | (k, v) :: m, a => if k = a then some v else Memory.lookup m a

/-- Write one byte, keeping the canonical form. -/
def Memory.store : Memory → Nat → Byte → Memory
  | [], a, v => [(a, v)]
  | (k, w) :: m, a, v =>
    if a < k then (a, v) :: (k, w) :: m
    else if a = k then (a, v) :: m
    else (k, w) :: Memory.store m a v

/-- Write bytes at consecutive addresses, the first at `a`. -/
def Memory.storeBytes : Memory → Nat → List Byte → Memory
  | m, _, [] => m
  | m, a, b :: bs => Memory.storeBytes (m.store a b) (a + 1) bs

/-- Where CMTBUF begins (20_memory.md R60). -/
def cmtbufBase : Nat := 0x1000

/-- The bytes of CMTBUF (20_memory.md R64). -/
def cmtbufSize : Nat := 255

/-- Where PIXMEM begins (20_memory.md R60). -/
def pixmemBase : Nat := 0x10000000

/-- Where OUTMEM begins (20_memory.md R60). -/
def outmemBase : Nat := 0x80000000

/-- The byte at a host offset of CMTBUF or PIXMEM: the one written last, else what power-on left there, a draw (20_memory.md
R64, R70). The ONE definition of what an unlisted address reads as (log 5). -/
def State.byteAt (s : State) (off : Nat) : Byte := (s.mem.lookup off).getD (Config.powerOnByte s.epoch off)

/-- `PixRead(k)` (20_memory.md R70). -/
def State.pixRead (s : State) (k : Nat) : Byte := s.byteAt (pixmemBase + k)

/-- `CMTBUF[k]` (20_memory.md R64). -/
def State.cmtRead (s : State) (k : Nat) : Byte := s.byteAt (cmtbufBase + k)

/-- `COMMENT[k]` (10_state.md R46). -/
def State.commentByte (s : State) (k : Nat) : Byte := (s.comment.lookup k).getD (Config.powerOnComment s.epoch k)

/-- The configured comment, `COMMENT[0 .. COMMENT_LEN−1]` (10_state.md R46). -/
def State.commentBytes (s : State) : List Byte := (List.range s.cfg.commentLen.toNat).map s.commentByte

/-! ### Append -/

/-- `Append(b)` (20_memory.md R69): store the byte, or drop it and say so. -/
def State.append (s : State) (b : Byte) : State :=
  if s.out.length < s.prm.outCap then { s with out := s.out ++ [b] }
  else { s with ovf := true, bufInvalid := true }

/-- `AppendSeq(bs)`: `Append` of each byte, first to last (00_scope.md R15). Written for the whole sequence at once: the bytes
that fit are stored, and if any does not fit it is dropped and the two bits are set (log 12). -/
def State.appendSeq (s : State) (bs : List Byte) : State :=
  let room := s.prm.outCap - s.out.length
  if bs.length ≤ room then { s with out := s.out ++ bs }
  else { s with out := s.out ++ bs.take room, ovf := true, bufInvalid := true }

/-! ### The datapath state, and result and error recording -/

/-- The datapath state as a command finds it: the values it wrote itself, or a draw (10_state.md R49 to R52; log 9). -/
def State.datapath (s : State) : Datapath :=
  match s.dp with
  | .values d => d
  | .draw n => Config.drawDatapath n

/-- A command writes datapath state. -/
def State.setDatapath (s : State) (d : Datapath) : State := { s with dp := .values d }

/-- The datapath state that stands from here to the next command is a draw, and a new one (10_state.md R52, 00_scope.md R17, 93
I12; log 9). Every command and every power-on reset ends with it. -/
def State.redrawDatapath (s : State) : State := { s with dp := .draw s.draws, draws := s.draws + 1 }

/-- `complete` (00_scope.md R16, 60_exceptions.md R345): ERRCODE 0, RESULT 1, then BUSY falls (70_reset_and_hazards.md R384). -/
def State.complete (s : State) : State :=
  { s.redrawDatapath with errcode := .none, result := true, executing := none }

/-- `raise E` (00_scope.md R16, 60_exceptions.md R345): ERRCODE the code of E, RESULT 0, then BUSY falls. This is the one
operation by which an error is taken; it saves nothing else and transfers no control. The return from it is the host's next
command (R346). -/
def State.raise (s : State) (e : ErrorCode) : State :=
  { s.redrawDatapath with errcode := e, result := false, executing := none }

/-- The illegal-command action (30_encoding.md R91, 60_exceptions.md R347). -/
def State.illegalCommandAction (s : State) : State := s.raise .illegalCommand

/-! ### Reset -/

/-- `SessionReset()` (70_reset_and_hazards.md R371). -/
def State.sessionReset (s : State) : State :=
  { s with
    executing := none, lifecycle := .unconfigured, geomSet := false, locked := false, bufInvalid := false, fatal := false,
    ovf := false, result := true, errcode := .none, out := [], frameCount := 0, cfg := Settings.initial }

/-- Power-on reset (70_reset_and_hazards.md R370): SessionReset, ARG0 and ARG1 zero, and every memory and the datapath drawn
anew. A command in flight is ended without completing. The parameters, the host's remaining operations and the model's own
counters are not the core's to reset (log 7). -/
def State.powerOn (s : State) : State :=
  { s.sessionReset.redrawDatapath with arg0 := 0, arg1 := 0, mem := [], comment := [], epoch := s.epoch + 1 }

/-! ### The setting commands' common check -/

/-- `CheckSettable()` (44_cmd_config.md R280): the error a setting command raises before it looks at its operands. -/
def State.checkSettable (s : State) : Option ErrorCode :=
  if s.fatal then some .invalidState
  else if s.locked ∨ s.lifecycle = .finished then some .configurationError
  else none

/-- A setting command (44_cmd_config.md R280, R281, R297): CheckSettable, then the range of its operands, then all of its
registers at once. -/
def State.applySetting (s : State) (inRange : Bool) (write : State → State) : Host.Outcome State Fault Refusal :=
  match s.checkSettable with
  | some e => .next (s.raise e)
  | none => if inRange then .next (write s).complete else .next (s.raise .configurationError)

end Sys2Proof.Machine
end

