-- ==== Sys2Proof/Machine/CmdConfig.lean ====
section
/-! DEFINITION. The setting commands (44_cmd_config.md R282 to R297). -/

namespace Sys2Proof.Machine

/-- CONFIGURE (R282): ARG0 width, ARG1 height, each 1 to 65535, the product at most MAX_PIXELS, exact. -/
def execConfigure (s : State) : Host.Outcome State Fault Refusal :=
  let w := s.arg0U
  let h := s.arg1U
  s.applySetting (decide (1 ≤ w ∧ w ≤ 65535 ∧ 1 ≤ h ∧ h ≤ 65535 ∧ w * h ≤ s.prm.maxPixels))
    fun s => { s with cfg := { s.cfg with width := BitVec.ofNat 16 w, height := BitVec.ofNat 16 h }, geomSet := true }

/-- SET_QUALITY (R285): ARG0, 1 to 30, never clamped. -/
def execSetQuality (s : State) : Host.Outcome State Fault Refusal :=
  s.applySetting (decide (1 ≤ s.arg0U ∧ s.arg0U ≤ 30))
    fun s => { s with cfg := { s.cfg with quality := BitVec.ofNat 5 s.arg0U } }

/-- `(ms + 5) fdiv 10`, exact (R286, R287). -/
def centisecondsOfMs (ms : Nat) : Nat := fdiv (ms + 5) 10

/-- SET_DELAY (R287): ARG0 in milliseconds. -/
def execSetDelay (s : State) : Host.Outcome State Fault Refusal :=
  s.applySetting (decide (centisecondsOfMs s.arg0U ≤ 65535))
    fun s => { s with cfg := { s.cfg with delay := BitVec.ofNat 16 (centisecondsOfMs s.arg0U) } }

/-- `(200 + fps) fdiv (2·fps)`, exact (R286, R289). -/
def centisecondsOfFps (fps : Nat) : Nat := fdiv (200 + fps) (2 * fps)

/-- SET_FRAME_RATE (R289): ARG0 in frames per second, not 0. -/
def execSetFrameRate (s : State) : Host.Outcome State Fault Refusal :=
  s.applySetting (decide (s.arg0U ≠ 0))
    fun s => { s with cfg := { s.cfg with delay := BitVec.ofNat 16 (centisecondsOfFps s.arg0U) } }

/-- SET_REPEAT (R291): ARG0 as s32, −1 to 65535. -/
def execSetRepeat (s : State) : Host.Outcome State Fault Refusal :=
  s.applySetting (decide (-1 ≤ s.arg0S ∧ s.arg0S ≤ 65535))
    fun s => { s with cfg := { s.cfg with loops := BitVec.ofInt 32 s.arg0S } }

/-- SET_DISPOSAL (R292): ARG0, 0 to 7. -/
def execSetDisposal (s : State) : Host.Outcome State Fault Refusal :=
  s.applySetting (decide (s.arg0U ≤ 7))
    fun s => { s with cfg := { s.cfg with disposal := BitVec.ofNat 3 s.arg0U } }

/-- SET_TRANSPARENT (R293): ARG0 0xRRGGBB, checked also when ARG1 clears; ARG1 0 or 1. -/
def execSetTransparent (s : State) : Host.Outcome State Fault Refusal :=
  s.applySetting (decide (s.arg0U ≤ 0xFFFFFF ∧ s.arg1U ≤ 1))
    fun s =>
      if s.arg1U = 1 then { s with cfg := { s.cfg with transpRgb := BitVec.ofNat 24 s.arg0U, transpEn := true } }
      else { s with cfg := { s.cfg with transpRgb := 0, transpEn := false } }

/-- SET_COMMENT (R295): copies CMTBUF[0 .. ARG0−1] into COMMENT. COMMENT bytes at and above ARG0 keep their values. -/
def execSetComment (s : State) : Host.Outcome State Fault Refusal :=
  s.applySetting (decide (s.arg0U ≤ 255))
    fun s => { s with
      comment := s.comment.storeBytes 0 ((List.range s.arg0U).map s.cmtRead)
      cfg := { s.cfg with commentLen := BitVec.ofNat 8 s.arg0U } }

end Sys2Proof.Machine
end

