-- ==== Sys2Proof/Machine/Compressor.lean ====
section
/-! DEFINITION. The LZWCompressor (42_lzw.md R200 to R220): dictionary, code width, bit writer and sub-block FIFO. Every
operation works on the LZW state and gives the bytes it appends to OUT, in order; ADD_FRAME appends them (log 12). `limit` is
SUBBLOCK_MAX. None raises an error (R220). -/

namespace Sys2Proof.Machine

/-- `LZW_Init` (R201). ENT and POS are written by LZW_Encode. -/
def lzwInit (l : Lzw) : Lzw :=
  { l with
    dict := [], freeEnt := Config.firstFree, nBits := Config.initBits, maxcode := 2 ^ Config.initBits - 1, clearFlg := false,
    acc := 0, accBits := 0, pkt := [] }

/-! ### Bit writer and sub-block FIFO -/

/-- `LZW_FlushPacket()` (R212): one data sub-block, its length byte first, if PKT holds any byte. -/
def lzwFlushPacket (l : Lzw) : Lzw × List Byte :=
  if l.pkt.length > 0 then ({ l with pkt := [] }, byteOfNat l.pkt.length :: l.pkt) else (l, [])

/-- `LZW_Byte(b)` (R211). -/
def lzwByte (limit : Nat) (b : Byte) (l : Lzw) : Lzw × List Byte :=
  let l := { l with pkt := l.pkt ++ [b] }
  if l.pkt.length ≥ limit then lzwFlushPacket l else (l, [])

/-- The low byte of ACC goes to the FIFO and leaves ACC (R208, R210). -/
def lzwShiftOut (limit : Nat) (l : Lzw) : Lzw × List Byte :=
  let r := lzwByte limit (l.acc.extractLsb' 0 8) l
  ({ r.1 with acc := r.1.acc >>> 8, accBits := r.1.accBits - 8 }, r.2)

/-- `n` turns of the byte loop of R208 or R210. -/
def lzwDrain (limit : Nat) : Nat → Lzw → Lzw × List Byte
  | 0, l => (l, [])
  | n + 1, l =>
    let r := lzwShiftOut limit l
    let rest := lzwDrain limit n r.1
    (rest.1, r.2 ++ rest.2)

/-- `LZW_Width()` (R209). -/
def lzwWidth (l : Lzw) : Lzw :=
  if l.clearFlg then { l with nBits := Config.initBits, maxcode := 2 ^ Config.initBits - 1, clearFlg := false }
  else if l.freeEnt > l.maxcode then
    { l with nBits := l.nBits + 1, maxcode := if l.nBits + 1 = 12 then Config.maxCodes else 2 ^ (l.nBits + 1) - 1 }
  else l

/-- `LZW_FinalFlush()` (R210): the rest of ACC, its last byte padded with zero bits, then the last sub-block. -/
def lzwFinalFlush (limit : Nat) (l : Lzw) : Lzw × List Byte :=
  let r := lzwDrain limit ((l.accBits + 7) / 8) l
  let f := lzwFlushPacket r.1
  (f.1, r.2 ++ f.2)

/-- The packing part of `LZW_Output(code)` (R208): the code goes above the bits already in ACC, whole bytes leave. -/
def lzwPack (limit : Nat) (code : Nat) (l : Lzw) : Lzw × List Byte :=
  let l := { l with acc := l.acc ||| (BitVec.ofNat 32 code <<< l.accBits), accBits := l.accBits + l.nBits }
  lzwDrain limit (l.accBits / 8) l

/-- `LZW_Output(code)` (R208). -/
def lzwOutput (limit : Nat) (code : Nat) (l : Lzw) : Lzw × List Byte :=
  let r := lzwPack limit code l
  let w := lzwWidth r.1
  if code = Config.eoiCode then
    let f := lzwFinalFlush limit w
    (f.1, r.2 ++ f.2)
  else (w, r.2)

/-! ### Dictionary -/

/-- `DICT[(pre, c)]` (R204). -/
def dictFind (dict : List DictEntry) (pre : Nat) (c : Byte) : Option Nat :=
  match dict with
  | [] => none
  | e :: rest => if e.pre = pre ∧ e.suffix = c then some e.code else dictFind rest pre c

/-- One turn of the loop of `LZW_Encode` (R202), for the symbol `c`. -/
def lzwSymbol (limit : Nat) (c : Byte) (l : Lzw) : Lzw × List Byte :=
  let l := { l with pos := l.pos + 1 }
  match dictFind l.dict l.ent c with
  | some code => ({ l with ent := code }, [])
  | none =>
    let pre := l.ent
    let r := lzwOutput limit pre l
    let l := { r.1 with ent := c.toNat }
    if l.freeEnt < Config.maxCodes then
      ({ l with dict := { pre := pre, suffix := c, code := l.freeEnt } :: l.dict, freeEnt := l.freeEnt + 1 }, r.2)
    else
      let f := lzwOutput limit Config.clearCode { l with dict := [], freeEnt := Config.firstFree, clearFlg := true }
      (f.1, r.2 ++ f.2)

/-- The loop of `LZW_Encode` over the symbols that are left (R202). -/
def lzwSymbols (limit : Nat) : List Byte → Lzw → Lzw × List Byte
  | [], l => (l, [])
  | c :: cs, l =>
    let r := lzwSymbol limit c l
    let rest := lzwSymbols limit cs r.1
    (rest.1, r.2 ++ rest.2)

/-- `LZW_Encode` (R202) of IDX, which has at least one symbol (R207; log 16): the data sub-blocks of one frame. -/
def lzwEncode (limit : Nat) (idx : List Byte) (l : Lzw) : Lzw × List Byte :=
  let l := { lzwInit l with ent := (idx.headD 0).toNat, pos := 1 }
  let opening := lzwOutput limit Config.clearCode l
  let body := lzwSymbols limit idx.tail opening.1
  let pending := lzwOutput limit body.1.ent body.1
  let closing := lzwOutput limit Config.eoiCode pending.1
  (closing.1, opening.2 ++ body.2 ++ pending.2 ++ closing.2)

end Sys2Proof.Machine
end

