-- ==== Sys2Proof/Machine/Container.lean ====
section
/-! DEFINITION. The ContainerWriter: the bytes of the GIF89a blocks (43_container.md R240 to R258). -/

namespace Sys2Proof.Machine

/-- The Signature, ascii("GIF89a") (R242). -/
def gifSignature : List Byte := [0x47, 0x49, 0x46, 0x38, 0x39, 0x61]

/-- The LSD packed byte (R244): global colour table 1, colour resolution 7, sort 0, table size 7. -/
def lsdPacked : Byte := (1 : BitVec 1) ++ (7 : BitVec 3) ++ (0 : BitVec 1) ++ (7 : BitVec 3)

/-- The Logical Screen Descriptor (R243): background index 0, aspect ratio 0. -/
def lsdBytes (c : Settings) : List Byte := le16 c.width ++ le16 c.height ++ [lsdPacked, 0x00, 0x00]

/-- ascii("NETSCAPE2.0"), the identifier and authentication code (R246). -/
def netscapeId : List Byte := [0x4E, 0x45, 0x54, 0x53, 0x43, 0x41, 0x50, 0x45, 0x32, 0x2E, 0x30]

/-- Whether REPEAT ≥ 0, so that the Netscape block is written (R246). -/
def loopsWritten (c : Settings) : Bool := decide (0 ≤ s32 c.loops)

/-- The Netscape Application Extension (R246), with REPEAT as it stands (R247). -/
def netscapeBytes (c : Settings) : List Byte :=
  [0x21, 0xFF, 0x0B] ++ netscapeId ++ [0x03, 0x01] ++ le16 (c.loops.extractLsb' 0 16) ++ [0x00]

/-- The GCE packed byte (R249): reserved 0, DISPOSAL, user input 0, TRANSP_EN. -/
def gcePacked (c : Settings) : Byte := (0 : BitVec 3) ++ c.disposal ++ (0 : BitVec 1) ++ BitVec.ofBool c.transpEn

/-- The Graphic Control Extension (R248, R250, R251). -/
def gceBytes (c : Settings) (tidx : Byte) : List Byte :=
  [0x21, 0xF9, 0x04, gcePacked c] ++ le16 c.delay ++ [tidx, 0x00]

/-- The Comment Extension (R252). -/
def commentExtension (c : Settings) (text : List Byte) : List Byte := [0x21, 0xFE, c.commentLen] ++ text ++ [0x00]

/-- The Image Descriptor's packed byte (R254): local table flag, interlace 0, sort 0, reserved 0, table size. -/
def descriptorPacked (first : Bool) : Byte :=
  BitVec.ofBool (!first) ++ (0 : BitVec 1) ++ (0 : BitVec 1) ++ (0 : BitVec 2) ++ (if first then (0 : BitVec 3) else 7)

/-- The Image Descriptor (R253): left 0, top 0, the whole logical screen. -/
def descriptorBytes (c : Settings) (first : Bool) : List Byte :=
  [0x2C] ++ le16 0 ++ le16 0 ++ le16 c.width ++ le16 c.height ++ [descriptorPacked first]

/-- The Image Data block around the data sub-blocks of one frame (R256, R214): the minimum code size before them, one
zero-length block after them (90_conflicts.md C2). -/
def imageDataBytes (subBlocks : List Byte) : List Byte := [byteOfNat Config.minCodeSize] ++ subBlocks ++ [0x00]

/-- The Trailer (R257). -/
def gifTrailer : Byte := 0x3B

end Sys2Proof.Machine
end

