-- ==== Sys2Proof/Machine/Quantizer.lean ====
section
/-! DEFINITION. The ColorQuantizer, NeuQuant (41_quantizer.md R140 to R166). Every operation is an internal step of ADD_FRAME on
the quantizer's own state; none raises an error (R166). Values are exact integers: R141 shows that none leaves s32 (log 11). -/

namespace Sys2Proof.Machine

/-- A sample or a colour as three channel values, in the order c[0], c[1], c[2] (R143). -/
structure Colour where
  /-- Red. -/
  x0 : Int
  /-- Green. -/
  x1 : Int
  /-- Blue. -/
  x2 : Int
  deriving DecidableEq, Repr

/-! ### Step 1: initialisation -/

/-- The entry R142 gives position `i`: grey level `(i << 12) fdiv 256` on all three channels, colour number `i`. -/
def initialNeuron (i : Nat) : Neuron :=
  let v : Int := fdiv (i * 2 ^ (Config.netBiasShift + 8)) Config.netSize
  { c0 := v, c1 := v, c2 := v, idx := byteOfNat i }

/-- `NQ_Init` (R142): writes NET, FREQ and BIAS. -/
def nqInit (q : Quant) : Quant :=
  { q with
    net := (List.range Config.netSize).map initialNeuron
    freq := List.replicate Config.netSize (fdiv Config.intBias Config.netSize : Nat)
    bias := List.replicate Config.netSize 0 }

/-! ### Steps 2 to 4: training -/

/-- `NQ_Stride(L)` (R145), in bytes. The test is made on L = 3·N. -/
def nqStride (len : Nat) : Nat :=
  if len < Config.minPictureBytes then 3
  else if len % Config.prime1 ≠ 0 then 3 * Config.prime1
  else if len % Config.prime2 ≠ 0 then 3 * Config.prime2
  else if len % Config.prime3 ≠ 0 then 3 * Config.prime3
  else 3 * Config.prime4

/-- `RADIUS >> 6`, with 1 replaced by 0, which switches neighbour updates off (R144, R150). -/
def radOfRadius (radius : Nat) : Nat :=
  let r := radius / 2 ^ Config.radiusBiasShift
  if r ≤ 1 then 0 else r

/-- `NQ_SetRadpower()` (R146): entries below RAD are recomputed, the others keep their values. -/
def nqSetRadpower (q : Quant) : Quant :=
  { q with
    radpower := (List.range Config.initRad).map fun i =>
      if i < q.rad then q.alpha * fdiv ((q.rad * q.rad - i * i) * Config.radBias) (q.rad * q.rad)
      else q.radpower.getD i 0 }

/-- `NQ_LearnSetup` (R144), for L = `len` sample bytes and the QUALITY register. -/
def nqLearnSetup (len quality : Nat) (q : Quant) : Quant :=
  let qEff := if len < Config.minPictureBytes then 1 else quality
  let samplepixels := fdiv len (3 * qEff)
  let delta := fdiv samplepixels Config.nCycles
  let q := { q with
    qEff := qEff
    alphadec := 30 + fdiv (qEff - 1) 3
    samplepixels := samplepixels
    delta := if delta = 0 then 1 else delta
    alpha := Config.initAlpha
    radius := Config.initRadius
    rad := radOfRadius Config.initRadius }
  { nqSetRadpower q with stride := nqStride len }

/-- A running winner of the contest: the least distance so far, and its position (−1 before the first). -/
structure Winner where
  /-- bestd or bestbiasd. -/
  dist : Int
  /-- bestpos or bestbiaspos. -/
  pos : Int
  deriving DecidableEq, Repr

/-- The winner before the scan (R151). -/
def Winner.start : Winner := { dist := 0x7FFFFFFF, pos := -1 }

/-- A candidate at position `i` replaces the winner only when it is strictly nearer, so ties go to the lowest position
(R152). -/
def Winner.offer (w : Winner) (dist : Int) (i : Nat) : Winner :=
  if dist < w.dist then { dist := dist, pos := i } else w

/-- The L1 distance of a neuron from a sample (R151). -/
def neuronDist (x : Colour) (n : Neuron) : Int := absInt (n.c0 - x.x0) + absInt (n.c1 - x.x1) + absInt (n.c2 - x.x2)

/-- The scan of R151 from position `i` on: both winners. The bias term is read as it was before this sample's decay
(90_conflicts.md C3). -/
def contestScan (x : Colour) : Nat → List Neuron → List Int → Winner → Winner → Winner × Winner
  | i, n :: net, b :: bias, plain, biased =>
    let dist := neuronDist x n
    contestScan x (i + 1) net bias (plain.offer dist i) (biased.offer (dist - asr b (Config.intBiasShift - Config.netBiasShift)) i)
  | _, _, _, plain, biased => (plain, biased)

/-- What one sample takes from a neuron's frequency: `FREQ[i] >> 10` (R151). -/
def betaFreq (f : Int) : Int := asr f Config.betaShift

/-- `NQ_Contest(x0, x1, x2)` (R151): the position of the biased winner, which moves, and the bookkeeping: every neuron decays,
and the plain winner's frequency is raised and its bias lowered. -/
def nqContest (x : Colour) (q : Quant) : Int × Quant :=
  let winners := contestScan x 0 q.net q.bias Winner.start Winner.start
  let freq := q.freq.map fun f => f - betaFreq f
  let bias := List.zipWith (fun b f => b + betaFreq f * 2 ^ Config.gammaShift) q.bias q.freq
  (winners.2.pos,
    { q with
      freq := freq.modify winners.1.pos.toNat (· + Config.beta)
      bias := bias.modify winners.1.pos.toNat (· - Config.betaGamma) })

/-- One channel moved toward the sample by the fraction `a / scale`, truncated toward zero (R153, R154). -/
def moveChannel (a scale c x : Int) : Int := c - tdiv (a * (c - x)) scale

/-- All three channels of a neuron moved; its colour number stays (R153, R154). -/
def moveNeuron (a scale : Int) (x : Colour) (n : Neuron) : Neuron :=
  { n with c0 := moveChannel a scale n.c0 x.x0, c1 := moveChannel a scale n.c1 x.x1, c2 := moveChannel a scale n.c2 x.x2 }

/-- `NQ_AlterSingle(alpha, j, x0, x1, x2)` (R153). -/
def nqAlterSingle (alpha : Nat) (j : Nat) (x : Colour) (q : Quant) : Quant :=
  { q with net := q.net.modify j (moveNeuron alpha Config.initAlpha x) }

/-- The loop of R154 on NET: `up` and `down` walk away from j, one step each per weight. The fuel is the number of weights
left to try; `rad` of them are enough (R155). -/
def alterNeighLoop (radpower : List Nat) (x : Colour) (lo hi : Int) : Nat → Int → Int → Nat → List Neuron → List Neuron
  | 0, _, _, _, net => net
  | fuel + 1, up, down, m, net =>
    if up < hi ∨ down > lo then
      let a := radpower.getD m 0
      let net1 := if up < hi then net.modify up.toNat (moveNeuron a Config.alphaRadBias x) else net
      let net2 := if down > lo then net1.modify down.toNat (moveNeuron a Config.alphaRadBias x) else net1
      alterNeighLoop radpower x lo hi fuel (if up < hi then up + 1 else up) (if down > lo then down - 1 else down) (m + 1) net2
    else net

/-- `NQ_AlterNeigh(rad, j, x0, x1, x2)` (R154). -/
def nqAlterNeigh (rad : Nat) (j : Nat) (x : Colour) (q : Quant) : Quant :=
  let lo : Int := max ((j : Int) - rad) (-1)
  let hi : Int := min ((j : Int) + rad) Config.netSize
  { q with net := alterNeighLoop q.radpower x lo hi rad (j + 1) ((j : Int) - 1) 1 q.net }

/-- `NQ_Decay()` (R150). -/
def nqDecay (q : Quant) : Quant :=
  let radius := q.radius - fdiv q.radius Config.radiusDec
  nqSetRadpower { q with
    alpha := q.alpha - fdiv q.alpha q.alphadec
    radius := radius
    rad := radOfRadius radius }

/-- A sample byte as a training value, shifted left by NETBIASSHIFT (R148). -/
def sampleValue (b : Byte) : Int := (b.toNat * 2 ^ Config.netBiasShift : Nat)

/-- The sample at byte PIX of S (R147); black past the end of S, where no frame reads (log 16). -/
def sampleAt (samples : List Byte) (pix : Nat) : Colour :=
  match samples.drop pix with
  | r :: g :: b :: _ => { x0 := sampleValue r, x1 := sampleValue g, x2 := sampleValue b }
  | _ => { x0 := 0, x1 := 0, x2 := 0 }

/-- The neurons' move for one sample: the biased winner, and its neighbours unless RAD = 0 (R147). -/
def nqTrainSample (x : Colour) (q : Quant) : Quant :=
  let won := nqContest x q
  let j := won.1.toNat
  let q := nqAlterSingle won.2.alpha j x won.2
  if q.rad ≠ 0 then nqAlterNeigh q.rad j x q else q

/-- One turn of the loop of R147; L is the length of S. -/
def nqLearnStep (samples : List Byte) (len : Nat) (q : Quant) : Quant :=
  let q := nqTrainSample (sampleAt samples q.pix) q
  let pix := q.pix + q.stride
  let q := { q with pix := if pix ≥ len then pix - len else pix, i := q.i + 1 }
  if q.i % q.delta = 0 then nqDecay q else q

/-- The turns of the loop of R147 that are left. -/
def nqLearnLoop (samples : List Byte) (len : Nat) : Nat → Quant → Quant
  | 0, q => q
  | n + 1, q => nqLearnLoop samples len n (nqLearnStep samples len q)

/-- `NQ_Learn` (R147): SAMPLEPIXELS turns (R149). -/
def nqLearn (samples : List Byte) (q : Quant) : Quant :=
  nqLearnLoop samples samples.length q.samplepixels { q with pix := 0, i := 0 }

/-! ### Step 5: palette and lookup -/

/-- One entry of `NQ_Unbias`: the fraction bits dropped, the colour number its position (R156). -/
def unbiasNeuron (i : Nat) (n : Neuron) : Neuron :=
  { c0 := asr n.c0 Config.netBiasShift, c1 := asr n.c1 Config.netBiasShift, c2 := asr n.c2 Config.netBiasShift,
    idx := byteOfNat i }

/-- `NQ_Unbias` (R156). -/
def nqUnbias (q : Quant) : Quant := { q with net := q.net.mapIdx unbiasNeuron }

/-- The three palette bytes of an entry (R160). -/
def neuronBytes (n : Neuron) : List Byte := [byteOfInt n.c0, byteOfInt n.c1, byteOfInt n.c2]

/-- The frame's palette (R160), read where R165 reads it: after NQ_Unbias and before NQ_IndexBuild, where the entry with
colour number l is the one at position l. -/
def nqPalette (net : List Neuron) : List Byte := net.flatMap neuronBytes

/-- The least c[1] at or after a position, and where it stands in the tail, if it is strictly below `x`'s (R158): the first
such entry of the tail `xs`, whose first entry has offset `k`. -/
def smallestAfter (val : Int) : Nat → List Neuron → Option Nat → Option Nat
  | _, [], best => best
  | k, n :: ns, best => if n.c1 < val then smallestAfter n.c1 (k + 1) ns (some k) else smallestAfter val (k + 1) ns best

/-- The selection sort of R158 on c[1], whole entries swapped exactly as written. The fuel is the number of positions left. -/
def selectionSort : Nat → List Neuron → List Neuron
  | 0, net => net
  | _ + 1, [] => []
  | fuel + 1, x :: xs =>
    match smallestAfter x.c1 0 xs none with
    | none => x :: selectionSort fuel xs
    | some k => xs.getD k x :: selectionSort fuel (xs.set k x)

/-- NETINDEX as R158 writes it, from the sorted entries at positions `i` on. Each change of c[1] writes the entries from
`previouscol` up to the new value, and the two writes after the loop the rest, so the writes follow each other from entry 0 to
255 without gap or overlap, and the array is their concatenation (log 12). -/
def netindexRuns : Nat → List Neuron → Nat → Nat → List Byte
  | _, [], previouscol, startpos =>
    byteOfNat ((startpos + (Config.netSize - 1)) / 2)
      :: List.replicate (Config.netSize - 1 - previouscol) (byteOfNat (Config.netSize - 1))
  | i, n :: ns, previouscol, startpos =>
    let smallval := n.c1.toNat
    if smallval ≠ previouscol then
      byteOfNat ((startpos + i) / 2) :: (List.replicate (smallval - 1 - previouscol) (byteOfNat i) ++ netindexRuns (i + 1) ns smallval i)
    else netindexRuns (i + 1) ns previouscol startpos

/-- `NQ_IndexBuild` (R158): sorts NET on c[1] and builds NETINDEX. -/
def nqIndexBuild (q : Quant) : Quant :=
  let net := selectionSort q.net.length q.net
  { q with net := net, netindex := netindexRuns 0 net 0 0 }

/-- The best entry a lookup has found: its distance, and its colour number (R161; −1 before the first). -/
structure Match where
  /-- bestd. -/
  dist : Int
  /-- best. -/
  idx : Int
  deriving DecidableEq, Repr

/-- An entry examined by the lookup: the distance is added up channel by channel and dropped once it is not below the best
(R161). -/
def Match.examine (m : Match) (y : Colour) (n : Neuron) : Match :=
  let e := absInt (n.c1 - y.x1) + absInt (n.c0 - y.x0)
  if e < m.dist then
    let f := e + absInt (n.c2 - y.x2)
    if f < m.dist then { dist := f, idx := n.idx.toNat } else m
  else m

/-- The alternating scan of R161. `up` holds the entries from position i upward (empty: i = 256), `down` those from position
k downward (empty: k = −1). The fuel bounds the turns; each turn shortens every list that is not empty. -/
def nearestLoop (y : Colour) : Nat → List Neuron → List Neuron → Match → Match
  | 0, _, _, m => m
  | _ + 1, [], [], m => m
  | fuel + 1, up, down, m =>
    let afterUp : List Neuron × Match :=
      match up with
      | [] => ([], m)
      | n :: ns => if n.c1 - y.x1 ≥ m.dist then ([], m) else (ns, m.examine y n)
    let afterDown : List Neuron × Match :=
      match down with
      | [] => ([], afterUp.2)
      | n :: ns => if y.x1 - n.c1 ≥ afterUp.2.dist then ([], afterUp.2) else (ns, afterUp.2.examine y n)
    nearestLoop y fuel afterUp.1 afterDown.1 afterDown.2

/-- `NQ_Nearest(y0, y1, y2)` (R161): a palette index. The scan starts at NETINDEX[y1]. -/
def nqNearest (q : Quant) (r g b : Byte) : Byte :=
  let start := (q.netindex.getD g.toNat 0).toNat
  let y : Colour := { x0 := r.toNat, x1 := g.toNat, x2 := b.toNat }
  byteOfInt (nearestLoop y Config.netSize (q.net.drop start) (q.net.take start).reverse { dist := 1000, idx := -1 }).idx

end Sys2Proof.Machine
end

