-- ==== Sys2Proof/Machine/Sampler.lean ====
section
/-! DEFINITION. The PixelSampler and FrameIndexer, and the quantization between them (40_sampler_indexer.md R120 to R126;
41_quantizer.md R165): the datapath steps of ADD_FRAME that come before any byte is appended. -/

namespace Sys2Proof.Machine

/-- The three samples of pixel `k`; its alpha byte is never read (R120, R121). -/
def State.pixelSamples (s : State) (k : Nat) : List Byte := [s.pixRead (4 * k), s.pixRead (4 * k + 1), s.pixRead (4 * k + 2)]

/-- `SampleFrame()` (R120). -/
def State.sampleFrame (s : State) : State :=
  s.setDatapath { s.datapath with samples := (List.range s.cfg.pixels).flatMap s.pixelSamples }

/-- The training and its result for one frame's samples (41_quantizer.md R165): NQ_Init, NQ_LearnSetup, NQ_Learn, NQ_Unbias. -/
def nqTrained (samples : List Byte) (quality : Nat) (q : Quant) : Quant :=
  nqUnbias (nqLearn samples (nqLearnSetup samples.length quality (nqInit q)))

/-- `Quantize()` (41_quantizer.md R165): training, the palette read, NQ_IndexBuild. -/
def State.quantize (s : State) : State :=
  let trained := nqTrained s.datapath.samples s.cfg.quality.toNat s.datapath.quant
  s.setDatapath { s.datapath with palette := nqPalette trained.net, quant := nqIndexBuild trained }

/-- The palette index of each pixel of a sample buffer (R123). -/
def indexSamples (q : Quant) : List Byte → List Byte
  | r :: g :: b :: rest => nqNearest q r g b :: indexSamples q rest
  | _ => []

/-- `IndexFrame()` (R123). -/
def State.indexFrame (s : State) : State :=
  s.setDatapath { s.datapath with indices := indexSamples s.datapath.quant s.datapath.samples }

/-- `TransparentIndex()` (R124). -/
def State.transparentIndex (s : State) : State :=
  s.setDatapath { s.datapath with
    tidx := if s.cfg.transpEn then
        nqNearest s.datapath.quant (redOf s.cfg.transpRgb) (greenOf s.cfg.transpRgb) (blueOf s.cfg.transpRgb)
      else 0 }

end Sys2Proof.Machine
end

