-- ==== Sys2Proof/Machine/CmdSession.lean ====
section
/-! DEFINITION. The session commands (45_cmd_session.md R310 to R328). -/

namespace Sys2Proof.Machine

/-- START (R310): writes the signature and moves to STARTED; a second START is a no-op that completes. -/
def execStart (s : State) : Host.Outcome State Fault Refusal :=
  if s.fatal then .next (s.raise .invalidState)
  else
    match s.lifecycle with
    | .unconfigured => .next (State.complete { s.appendSeq gifSignature with lifecycle := .started })
    | .started => .next s.complete
    | .finished => .next (s.raise .invalidState)

/-! ### ADD_FRAME -/

/-- The blocks that only the first frame of a session writes: LSD, GCT and, if REPEAT ≥ 0, the Netscape extension (R313). -/
def State.firstFrameHeader (s : State) : List Byte :=
  lsdBytes s.cfg ++ s.datapath.palette ++ (if loopsWritten s.cfg then netscapeBytes s.cfg else [])

/-- The blocks of a frame before its image data (R313): the first frame's header, GCE, comment, descriptor, LCT. -/
def State.frameHeader (s : State) (first : Bool) : List Byte :=
  (if first then s.firstFrameHeader else [])
    ++ gceBytes s.cfg s.datapath.tidx
    ++ (if s.cfg.commentLen = 0 then [] else commentExtension s.cfg s.commentBytes)
    ++ descriptorBytes s.cfg first
    ++ (if first then [] else s.datapath.palette)

/-- `ImageData()` (43_container.md R256): compresses IDX and appends the Image Data block. -/
def State.imageData (s : State) : State :=
  let r := lzwEncode s.prm.subblockMax s.datapath.indices s.datapath.lzw
  (s.setDatapath { s.datapath with lzw := r.1 }).appendSeq (imageDataBytes r.2)

/-- The datapath work that comes before any byte is appended (R313, 40_sampler_indexer.md R126). -/
def State.frameDatapath (s : State) : State := s.sampleFrame.quantize.indexFrame.transparentIndex

/-- `FramePipeline()` (R313). FIRST is STATUS.LOCKED = 0 (43_container.md R241). -/
def State.framePipeline (s : State) : State :=
  let d := s.frameDatapath
  (d.appendSeq (d.frameHeader (!s.locked))).imageData

/-- `FrameComplete()` (R318). -/
def State.frameComplete (s : State) : State := { s with frameCount := s.frameCount + 1, locked := true }

/-- `DimensionMismatchAction()` (R316): DM_TAIL, one draw, is appended, and BUF_INVALID set. -/
def State.dimensionMismatchAction (s : State) : State :=
  { (s.appendSeq (Config.dmTail s.draws)) with bufInvalid := true, draws := s.draws + 1 }

/-- ADD_FRAME (R312): the four checks in their order, then the frame. -/
def execAddFrame (s : State) : Host.Outcome State Fault Refusal :=
  if s.fatal ∨ s.lifecycle ≠ .started then .next (s.raise .invalidState)
  else if s.arg1U ≠ 0 then .next (s.raise .invalidInputType)
  else if ¬ s.geomSet then .next (s.raise .configurationError)
  else if s.arg0U ≠ 4 * s.cfg.pixels then .next (s.dimensionMismatchAction.raise .dimensionMismatch)
  else .next s.framePipeline.frameComplete.complete

/-! ### FINISH, RESET_SESSION, NOP -/

/-- FINISH (R320): appends the trailer and moves to FINISHED, also with no frame added. -/
def execFinish (s : State) : Host.Outcome State Fault Refusal :=
  if s.fatal ∨ s.lifecycle ≠ .started then .next (s.raise .invalidState)
  else .next (State.complete { s.append gifTrailer with lifecycle := .finished })

/-- RESET_SESSION (R325): SessionReset in every state. -/
def execResetSession (s : State) : Host.Outcome State Fault Refusal := .next s.sessionReset.complete

/-- NOP (R328): completes in every state, clearing only the last error report. -/
def execNop (s : State) : Host.Outcome State Fault Refusal := .next s.complete

end Sys2Proof.Machine
end

