-- ==== Sys2Proof/Machine/Dispatch.lean ====
section
/-! DEFINITION. `exec`: one arm per command, one direct call of its meaning (30_encoding.md R93). -/

namespace Sys2Proof.Machine

def exec (i : Instr) (s : State) : Host.Outcome State Fault Refusal :=
  match i with
  | .nop => Sys2Proof.Machine.execNop s
  | .configure => Sys2Proof.Machine.execConfigure s
  | .setQuality => Sys2Proof.Machine.execSetQuality s
  | .setDelay => Sys2Proof.Machine.execSetDelay s
  | .setFrameRate => Sys2Proof.Machine.execSetFrameRate s
  | .setRepeat => Sys2Proof.Machine.execSetRepeat s
  | .setDisposal => Sys2Proof.Machine.execSetDisposal s
  | .setTransparent => Sys2Proof.Machine.execSetTransparent s
  | .setComment => Sys2Proof.Machine.execSetComment s
  | .start => Sys2Proof.Machine.execStart s
  | .addFrame => Sys2Proof.Machine.execAddFrame s
  | .finish => Sys2Proof.Machine.execFinish s
  | .resetSession => Sys2Proof.Machine.execResetSession s

end Sys2Proof.Machine
end

