-- ==== Sys2Proof/Machine/HostPort.lean ====
section
/-! DEFINITION. The host port: the address map, the access rules and what each access does (20_memory.md R60 to R73;
10_state.md R20 to R47; 70_reset_and_hazards.md R382, R383). A refused access answers with a bus error and changes nothing
(R71). -/

namespace Sys2Proof.Machine

/-- The parts of the address map that answer at all (20_memory.md R60). -/
inductive Region where
  /-- The register block, 4 KiB. -/
  | registers
  /-- CMTBUF. -/
  | cmtbuf
  /-- PIXMEM. -/
  | pixmem
  /-- OUTMEM. -/
  | outmem
  deriving DecidableEq, Repr

/-- The named registers (10_state.md R20 to R45). -/
inductive Reg where
  | id | version | cmd | arg0 | arg1 | status | errcode | outLen | frameCount
  | cfgGeom | cfgQuality | cfgDelay | cfgRepeat | cfgDisposal | cfgTransp | cfgCommentLen
  | prmMaxPixels | prmOutCap | prmSubblockMax
  deriving DecidableEq, Repr

/-- The region that holds a byte, if the offset is mapped (20_memory.md R60, R65). -/
def regionOf (p : Config.Params) (a : Nat) : Option Region :=
  if a < 0x1000 then some .registers
  else if a < cmtbufBase + cmtbufSize then some .cmtbuf
  else if pixmemBase ≤ a ∧ a < pixmemBase + 4 * p.maxPixels then some .pixmem
  else if outmemBase ≤ a ∧ a < outmemBase + p.outCap then some .outmem
  else none

/-- The region an access of `n` bytes at `a` goes to, unless its size, its alignment or its extent refuses it: registers take
4-byte accesses (R66), windows 1, 2 or 4 bytes (R67), aligned to their size and inside the window that holds the first byte
(R65). -/
def accessRegion (p : Config.Params) (a n : Nat) : Option Region :=
  match regionOf p a with
  | none => none
  | some .registers => if n = 4 ∧ a % 4 = 0 then some .registers else none
  | some r => if (n = 1 ∨ n = 2 ∨ n = 4) ∧ a % n = 0 ∧ regionOf p (a + n - 1) = some r then some r else none

/-- The register at an offset of the block; every other offset is reserved (10_state.md R47, 20_memory.md R61). -/
def regAt (a : Nat) : Option Reg :=
  if a = 0x000 then some .id
  else if a = 0x004 then some .version
  else if a = 0x008 then some .cmd
  else if a = 0x00C then some .arg0
  else if a = 0x010 then some .arg1
  else if a = 0x014 then some .status
  else if a = 0x018 then some .errcode
  else if a = 0x01C then some .outLen
  else if a = 0x020 then some .frameCount
  else if a = 0x024 then some .cfgGeom
  else if a = 0x028 then some .cfgQuality
  else if a = 0x02C then some .cfgDelay
  else if a = 0x030 then some .cfgRepeat
  else if a = 0x034 then some .cfgDisposal
  else if a = 0x038 then some .cfgTransp
  else if a = 0x03C then some .cfgCommentLen
  else if a = 0x040 then some .prmMaxPixels
  else if a = 0x044 then some .prmOutCap
  else if a = 0x048 then some .prmSubblockMax
  else none

/-- What a register reads as (10_state.md R20 to R45). -/
def State.regValue (s : State) : Reg → Word
  | .id => 0x4E514C47
  | .version => 0x00000001
  | .cmd => 0
  | .arg0 => s.arg0
  | .arg1 => s.arg1
  | .status => s.statusWord
  | .errcode => s.errcodeWord
  | .outLen => BitVec.ofNat 32 s.outLen
  | .frameCount => s.frameCount
  | .cfgGeom => s.cfg.geomWord
  | .cfgQuality => s.cfg.qualityWord
  | .cfgDelay => s.cfg.delayWord
  | .cfgRepeat => s.cfg.loops
  | .cfgDisposal => s.cfg.disposalWord
  | .cfgTransp => s.cfg.transpWord
  | .cfgCommentLen => s.cfg.commentLenWord
  | .prmMaxPixels => BitVec.ofNat 32 s.prm.maxPixels
  | .prmOutCap => BitVec.ofNat 32 s.prm.outCap
  | .prmSubblockMax => BitVec.ofNat 32 s.prm.subblockMax

/-- The registers whose reads are draws while BUSY = 1 (20_memory.md R68). -/
def Reg.drawnWhileBusy : Reg → Bool
  | .errcode | .outLen | .frameCount | .cfgGeom | .cfgQuality | .cfgDelay | .cfgRepeat | .cfgDisposal | .cfgTransp
  | .cfgCommentLen => true
  | .id | .version | .cmd | .arg0 | .arg1 | .status | .prmMaxPixels | .prmOutCap | .prmSubblockMax => false

/-- One byte of OUTMEM as the host reads it (20_memory.md R63, R68): OUT below OUT_LEN while idle, else a fresh draw. -/
def State.readOutByte (s : State) (k : Nat) : Byte × State :=
  match (if s.busy then none else s.out[k]?) with
  | some b => (b, s)
  | none => (Config.drawByte s.draws, { s with draws := s.draws + 1 })

/-- `n` bytes of OUTMEM from byte `k` on. -/
def State.readOutBytes (s : State) (k : Nat) : Nat → List Byte × State
  | 0 => ([], s)
  | n + 1 =>
    let first := s.readOutByte k
    let rest := first.2.readOutBytes (k + 1) n
    (first.1 :: rest.1, rest.2)

/-- `MemRead(a, n)` (20_memory.md R66 to R68). It changes nothing of the core (R73); the state it gives differs only in the
count of draws. -/
def State.busRead (s : State) (off : Word) (n : Nat) : BusResponse × State :=
  match accessRegion s.prm off.toNat n with
  | none => (.busError, s)
  | some .registers =>
    match regAt off.toNat with
    | none => (.busError, s)
    | some r =>
      if s.busy && r.drawnWhileBusy then (.data (Config.drawWord s.draws), { s with draws := s.draws + 1 })
      else (.data (s.regValue r), s)
  | some .cmtbuf => (.data (leWord ((List.range n).map fun i => s.byteAt (off.toNat + i))), s)
  | some .pixmem => (.data (leWord ((List.range n).map fun i => s.byteAt (off.toNat + i))), s)
  | some .outmem =>
    let r := s.readOutBytes (off.toNat - outmemBase) n
    (.data (leWord r.1), r.2)

/-- A write of CMD while BUSY = 0 starts the command its word encodes (10_state.md R23): BUSY rises, and the command is in
flight for CMD_LATENCY (log 3). -/
def State.startCommand (s : State) (w : Word) : State :=
  { s with executing := some { word := w, remaining := s.latencies.headD 0 }, latencies := s.latencies.tail }

/-- `MemWrite(a, n, v)` (20_memory.md R66 to R68). -/
def State.busWrite (s : State) (off : Word) (n : Nat) (v : Word) : BusResponse × State :=
  if s.busy then (.busError, s)
  else
    match accessRegion s.prm off.toNat n with
    | none => (.busError, s)
    | some .registers =>
      match regAt off.toNat with
      | some .arg0 => (.accepted, { s with arg0 := v })
      | some .arg1 => (.accepted, { s with arg1 := v })
      | some .cmd => (.accepted, s.startCommand v)
      | _ => (.busError, s)
    | some .cmtbuf => (.accepted, { s with mem := s.mem.storeBytes off.toNat (leBytes n v) })
    | some .pixmem => (.accepted, { s with mem := s.mem.storeBytes off.toNat (leBytes n v) })
    | some .outmem => (.busError, s)

/-- The answer of an access is what the host sees next. -/
def answered (r : BusResponse × State) : State := { r.2 with response := some r.1 }

/-- Whether a read of STATUS returned BUSY = 1, so that WAIT reads again (30_encoding.md R104). -/
def BusResponse.saysBusy : BusResponse → Bool
  | .data v => v.getLsbD 0
  | .accepted => false
  | .busError => false

/-- The reads READ_OUT issues once it knows OUT_LEN (30_encoding.md R109). DESIGN CHOICE, log 21: the OUT_LEN read may be a draw (BUSY =
1, 20_memory.md R68), and where `0x8000_0000 + k` then passes 2^32 − 1 the offset is kept modulo 2^32. -/
def readsOfOut (n : Nat) : List BusOp := (List.range n).map fun k => .read (BitVec.ofNat 32 (outmemBase + k)) 1

/-- One operation of the host or the platform (30_encoding.md R102, R104, R109; 70_reset_and_hazards.md R370), already taken
from `program`. -/
def State.serve (s : State) : BusOp → State
  | .write off n v => answered (s.busWrite off n v)
  | .read off n => answered (s.busRead off n)
  | .wait =>
    let r := s.busRead 0x014 4
    let t := answered r
    if r.1.saysBusy then { t with program := .wait :: t.program } else t
  | .readOut =>
    let r := s.busRead 0x01C 4
    let t := answered r
    match r.1 with
    | .data n => { t with program := readsOfOut n.toNat ++ t.program }
    | .accepted => t
    | .busError => t
  | .expect v => { s with expectOk := s.expectOk && decide (s.response = some (.data v)) }
  | .powerOnReset => s.powerOn

/-- The host's next operation, if it has one; with none, the core sits idle (70_reset_and_hazards.md R373, R388). -/
def State.hostStep (s : State) : State :=
  match s.program with
  | [] => s
  | op :: rest => State.serve { s with program := rest } op

end Sys2Proof.Machine
end

