-- ==== Sys2Proof/Machine/Sequencer.lean ====
section
/-! DEFINITION. The sequencer: what the core and its host do in one step (10_state.md R22, R23, R27; 70_reset_and_hazards.md
R384, R385). -/

namespace Sys2Proof.Machine

/-- The core executes the word written to CMD: the command it encodes, or the illegal-command action (30_encoding.md R91). -/
def runCommand (w : Word) (s : State) : Host.Outcome State Fault Refusal :=
  match decode w with
  | .command i => exec i s
  | .illegal _ => .next s.illegalCommandAction

/-- One step. A command in flight whose time is up runs, with all its effects at once (R384). Otherwise the host's next
operation is served, and a command in flight comes one operation nearer to its end (log 3), STATUS showing nothing of it but BUSY (log 18). -/
def sequencerStep (s : State) : Host.Outcome State Fault Refusal :=
  match s.executing with
  | none => .next s.hostStep
  | some c =>
    match c.remaining with
    | 0 => runCommand c.word s
    | k + 1 => .next (State.hostStep { s with executing := some { c with remaining := k } })

/-- The word `w` stands as if the host had just written it to CMD and its time were up: it is what the next step runs. -/
def State.latch (s : State) (w : Word) : State := { s with executing := some { word := w, remaining := 0 } }

end Sys2Proof.Machine
end

