-- ==== Sys2Proof/Machine/Step.lean ====
section
/-! DEFINITION. One step of the machine, and how an instruction is placed for the next step (log 4). -/

namespace Sys2Proof.Machine

/-- One step (Sequencer). -/
def step (s : State) : Host.Outcome State Fault Refusal := sequencerStep s

/-- `s` with the instruction whose bits are `w` latched as the command in flight, where `step` takes its next command from: the
core has no program counter and fetches nothing (10_state.md R22), so this stands for the host's write of CMD (log 4). -/
def State.withFetchWord (s : State) (nbits w : Nat) : State := s.latch (tableWord nbits w)

end Sys2Proof.Machine
end

