-- ==== Sys2Proof/Machine/HostProgram.lean ====
section
/-! DEFINITION. The host assembly (30_encoding.md R102 to R109): each statement's expansion into bus operations. The core sees
only the resulting operations (R110; log 19). -/

namespace Sys2Proof.Machine

/-- One line of a host program. -/
inductive Stmt where
  /-- `WR32 off, v`. -/
  | wr32 (off v : Word)
  /-- `WR8 off, v`. -/
  | wr8 (off : Word) (v : Byte)
  /-- `RD32 off`. -/
  | rd32 (off : Word)
  /-- `RD8 off`. -/
  | rd8 (off : Word)
  /-- `EXPECT RD32 off = v`. -/
  | expect32 (off v : Word)
  /-- `EXPECT RD8 off = v`. -/
  | expect8 (off : Word) (v : Byte)
  /-- `MNEMONIC`, `MNEMONIC a0` or `MNEMONIC a0, a1` (R103). -/
  | command (i : Instr) (a0 a1 : Option Word)
  /-- `WAIT` (R104). -/
  | wait
  /-- `LOAD_FRAME [b0, b1, ...]` (R105). -/
  | loadFrame (bytes : List Byte)
  /-- `SOLID_FRAME w, h, r, g, b, a` (R105). -/
  | solidFrame (w h : Nat) (r g b a : Byte)
  /-- `COMMENT "text"`, the text as its ASCII codes (R106). -/
  | comment (text : List Byte)
  /-- `ENCODE_FRAME` (R107). -/
  | encodeFrame
  /-- `CHECK_OK` (R108). -/
  | checkOk
  /-- `CHECK_ERR e` (R108). -/
  | checkErr (e : Word)
  /-- `READ_OUT` (R109). -/
  | readOut
  deriving DecidableEq, Repr

/-- `WR8` of each byte at consecutive offsets (R105, R106). DESIGN CHOICE, log 21: where `base + k` passes 2^32 − 1, which the spec
does not speak of, the offset is kept modulo 2^32. -/
def writesOfBytes (base : Nat) (bytes : List Byte) : List BusOp :=
  bytes.mapIdx fun k b => .write (BitVec.ofNat 32 (base + k)) 1 (b.setWidth 32)

/-- A command statement (R103): the operands given, the opcode, WAIT. -/
def commandOps (i : Instr) (a0 a1 : Option Word) : List BusOp :=
  (match a0 with | some v => [.write 0x00C 4 v] | none => [])
    ++ (match a1 with | some v => [.write 0x010 4 v] | none => [])
    ++ [.write 0x008 4 (encode i), .wait]

/-- The bytes of `SOLID_FRAME` (R105): the four bytes of the pixel, w·h times. -/
def solidFrameBytes (w h : Nat) (r g b a : Byte) : List Byte := (List.replicate (w * h) [r, g, b, a]).flatten

/-- The geometry of the last CONFIGURE statement so far, which ENCODE_FRAME uses (R107), and the last operands any command
statement gave, which a CONFIGURE that leaves one out repeats (R103). DESIGN CHOICE, log 19: R107's "last CONFIGURE statement in the
program" is read as the last one before the ENCODE_FRAME, not the last of the whole text. -/
structure ProgramContext where
  /-- The last ARG0 given. -/
  a0 : Word
  /-- The last ARG1 given. -/
  a1 : Word
  /-- WIDTH of the last CONFIGURE. -/
  w : Word
  /-- HEIGHT of the last CONFIGURE. -/
  h : Word
  deriving DecidableEq, Repr

/-- Before the first statement: ARG0 and ARG1 as power-on reset leaves them. No CONFIGURE yet, so the spec gives no WIDTH and
HEIGHT for ENCODE_FRAME to use: DESIGN CHOICE, two free values stand there (log 19). -/
def ProgramContext.start : ProgramContext :=
  { a0 := 0, a1 := 0, w := Config.unconfiguredWidth, h := Config.unconfiguredHeight }

/-- The context after a command statement. -/
def ProgramContext.afterCommand (c : ProgramContext) (i : Instr) (a0 a1 : Option Word) : ProgramContext :=
  let b0 := a0.getD c.a0
  let b1 := a1.getD c.a1
  if i = .configure then { a0 := b0, a1 := b1, w := b0, h := b1 } else { c with a0 := b0, a1 := b1 }

/-- The context after a `WR32`, which may be a write of an operand register. -/
def ProgramContext.afterWr32 (c : ProgramContext) (off v : Word) : ProgramContext :=
  if off = 0x00C then { c with a0 := v } else if off = 0x010 then { c with a1 := v } else c

/-- The byte length of a frame of the last CONFIGURE's geometry (R107). DESIGN CHOICE, log 21: where `4·WIDTH·HEIGHT` does not fit the
32 bits of ARG0 (a CONFIGURE that fails its check), which the spec does not speak of, it is kept modulo 2^32. -/
def ProgramContext.frameBytes (c : ProgramContext) : Word := BitVec.ofNat 32 (4 * (c.w.toNat * c.h.toNat))

/-- One statement's bus operations, and the context after it (R102 to R109). A `COMMENT` whose length does not fit 32 bits gives
SET_COMMENT its length modulo 2^32 (DESIGN CHOICE, log 21). -/
def Stmt.expand (c : ProgramContext) : Stmt → List BusOp × ProgramContext
  | .wr32 off v => ([.write off 4 v], c.afterWr32 off v)
  | .wr8 off v => ([.write off 1 (v.setWidth 32)], c)
  | .rd32 off => ([.read off 4], c)
  | .rd8 off => ([.read off 1], c)
  | .expect32 off v => ([.read off 4, .expect v], c)
  | .expect8 off v => ([.read off 1, .expect (v.setWidth 32)], c)
  | .command i a0 a1 => (commandOps i a0 a1, c.afterCommand i a0 a1)
  | .wait => ([.wait], c)
  | .loadFrame bytes => (writesOfBytes pixmemBase bytes, c)
  | .solidFrame w h r g b a => (writesOfBytes pixmemBase (solidFrameBytes w h r g b a), c)
  | .comment text =>
    let n : Word := BitVec.ofNat 32 text.length
    (writesOfBytes cmtbufBase text ++ commandOps .setComment (some n) none, c.afterCommand .setComment (some n) none)
  | .encodeFrame =>
    (commandOps .addFrame (some c.frameBytes) (some 0), c.afterCommand .addFrame (some c.frameBytes) (some 0))
  | .checkOk => ([.read 0x018 4, .expect 0], c)
  | .checkErr e => ([.read 0x018 4, .expect e], c)
  | .readOut => ([.readOut], c)

/-- A program's bus operations, in order (R102, R110). The context goes from each statement to the next, so ENCODE_FRAME sees the last
CONFIGURE statement before it and none after it (DESIGN CHOICE, log 19). -/
def expandProgram : ProgramContext → List Stmt → List BusOp
  | _, [] => []
  | c, st :: rest =>
    let r := st.expand c
    r.1 ++ expandProgram r.2 rest

end Sys2Proof.Machine
end

