-- ==== Sys2Proof/Safety.lean ====
section
/-! DEFINITION. The words the statements use: the legal states of a session, what a command leaves behind when it completes or
raises, the bytes of one frame as 43_container.md lays them out, and the readers of an LZW stream against which 42_lzw.md R216
is stated. -/

namespace Sys2Proof.Machine

/-! ### What a command leaves -/

/-- `s` after `complete`: ERRCODE 0, RESULT 1, BUSY 0 (60_exceptions.md R345). The datapath state is a draw between commands, of
which nothing is known (10_state.md R52), so it stands here as a free value (log 9). -/
def completed (s : State) : State :=
  { s with errcode := .none, result := true, executing := none, dp := .draw s.draws, draws := s.draws + 1 }

/-- `s` after `raise e` that changed nothing else (60_exceptions.md R345). The datapath state is a draw, as in `completed`. -/
def raised (e : ErrorCode) (s : State) : State :=
  { s with errcode := e, result := false, executing := none, dp := .draw s.draws, draws := s.draws + 1 }

/-- CheckSettable passes (44_cmd_config.md R280). -/
def Settable (s : State) : Prop := s.fatal = false ∧ s.locked = false ∧ s.lifecycle ≠ .finished

/-- A setting command outside the settable states: InvalidState while FATAL = 1, else ConfigurationError while locked or finished,
and nothing else changes (44_cmd_config.md R280). -/
def RefusedUnlessSettable (i : Instr) (s : State) : Prop :=
  (s.fatal = true → exec i s = .next (raised .invalidState s))
    ∧ (s.fatal = false → (s.locked = true ∨ s.lifecycle = .finished) → exec i s = .next (raised .configurationError s))

/-- ADD_FRAME passes its four checks (45_cmd_session.md R312). -/
def FrameAccepted (s : State) : Prop :=
  s.fatal = false ∧ s.lifecycle = .started ∧ s.arg1 = 0 ∧ s.geomSet = true
    ∧ s.arg0.toNat = 4 * (s.cfg.width.toNat * s.cfg.height.toNat)

/-- The core stands as it was: everything but the host port's own fields, the count of draws, and what is in flight. The datapath
state stands too, since only the end of a command and a power-on reset change it (70_reset_and_hazards.md R388; log 9). -/
def SameCore (s t : State) : Prop :=
  t.prm = s.prm ∧ t.arg0 = s.arg0 ∧ t.arg1 = s.arg1 ∧ t.result = s.result ∧ t.lifecycle = s.lifecycle ∧ t.geomSet = s.geomSet
    ∧ t.locked = s.locked ∧ t.bufInvalid = s.bufInvalid ∧ t.fatal = s.fatal ∧ t.ovf = s.ovf ∧ t.errcode = s.errcode
    ∧ t.frameCount = s.frameCount ∧ t.cfg = s.cfg ∧ t.comment = s.comment ∧ t.mem = s.mem ∧ t.out = s.out ∧ t.dp = s.dp
    ∧ t.epoch = s.epoch

/-! ### The legal states -/

/-- What every step keeps. Each field is a sentence of the spec about every reachable state. -/
structure Inv (s : State) : Prop where
  /-- The parameters are in range (00_scope.md R9). -/
  prmLegal : s.prm.wellFormed = true
  /-- The host memory and the comment store keep their canonical form. -/
  memCanonical : s.mem.wf ∧ s.comment.wf
  /-- Only CMTBUF and PIXMEM bytes are listed (20_memory.md R60, R65). -/
  memMapped : ∀ c ∈ s.mem, regionOf s.prm c.1 = some .cmtbuf ∨ regionOf s.prm c.1 = some .pixmem
  /-- COMMENT has 255 bytes (10_state.md R46). -/
  commentMapped : ∀ c ∈ s.comment, c.1 < 255
  /-- No output depends on a COMMENT byte that nobody wrote (10_state.md R46). -/
  commentWritten : ∀ k < s.cfg.commentLen.toNat, (s.comment.lookup k).isSome = true
  /-- OUT_LEN ≤ OUT_CAP (10_state.md R36). -/
  outFits : s.out.length ≤ s.prm.outCap
  /-- In UNCONFIGURED nothing was appended and nothing is locked (45_cmd_session.md R311). -/
  unconfiguredEmpty : s.lifecycle = .unconfigured → s.out = [] ∧ s.locked = false ∧ s.bufInvalid = false
  /-- OUT begins with the signature from START on (43_container.md R260). -/
  signatureFirst : s.lifecycle ≠ .unconfigured → gifSignature <+: s.out
  /-- OUT ends with the trailer from FINISH on, unless bytes were dropped (43_container.md R260). -/
  trailerLast : s.lifecycle = .finished → s.ovf = false → s.out.getLast? = some gifTrailer
  /-- A dropped byte means a full OUT and an invalid one (20_memory.md R69). -/
  overflowFull : s.ovf = true → s.bufInvalid = true ∧ s.out.length = s.prm.outCap
  /-- The geometry is legal once set, and zero before (10_state.md R38). -/
  geometryLegal : if s.geomSet then 1 ≤ s.cfg.width.toNat ∧ 1 ≤ s.cfg.height.toNat
      ∧ s.cfg.width.toNat * s.cfg.height.toNat ≤ s.prm.maxPixels
    else s.cfg.width = 0 ∧ s.cfg.height = 0
  /-- The lock needs a geometry (45_cmd_session.md R312, R318). -/
  lockedGeometry : s.locked = true → s.geomSet = true
  /-- QUALITY is 1 to 30 (10_state.md R39). -/
  qualityLegal : 1 ≤ s.cfg.quality.toNat ∧ s.cfg.quality.toNat ≤ 30
  /-- REPEAT is −1 to 65535 (10_state.md R41). -/
  repeatLegal : -1 ≤ s.cfg.loops.toInt ∧ s.cfg.loops.toInt ≤ 65535
  /-- While TRANSP_EN = 0, TRANSP_RGB is 0 (10_state.md R43). -/
  transparentLegal : s.cfg.transpEn = false → s.cfg.transpRgb = 0
  /-- RESULT = 1 exactly when ERRCODE = 0 (10_state.md R28). -/
  reportAgrees : s.result = true ↔ s.errcode = .none
  /-- FATAL is 0 and codes 2 and 3 are never reported (60_exceptions.md R348). -/
  neverFatal : s.fatal = false ∧ s.errcode ≠ .quantizerInitError ∧ s.errcode ≠ .compressorInitError

/-! ### The bytes of a frame, from 43_container.md R240 to R256 -/

/-- A 16-bit field, low byte first (20_memory.md R72). -/
def fieldLE (v : Nat) : List Byte := [BitVec.ofNat 8 (v % 256), BitVec.ofNat 8 (v / 256)]

/-- LSD, GCT and, if REPEAT ≥ 0, the Netscape extension: what only the first frame carries. -/
def headerBlocks (c : Settings) (palette : List Byte) : List Byte :=
  fieldLE c.width.toNat ++ fieldLE c.height.toNat ++ [0xF7, 0x00, 0x00] ++ palette ++
    (if 0 ≤ c.loops.toInt then
      [0x21, 0xFF, 0x0B, 0x4E, 0x45, 0x54, 0x53, 0x43, 0x41, 0x50, 0x45, 0x32, 0x2E, 0x30, 0x03, 0x01]
        ++ fieldLE (c.loops.toNat % 65536) ++ [0x00]
    else [])

/-- GCE, Comment?, Image Descriptor and, for a later frame, the LCT. -/
def frameBlocks (first : Bool) (c : Settings) (palette text : List Byte) (tidx : Byte) : List Byte :=
  [0x21, 0xF9, 0x04, BitVec.ofNat 8 (c.disposal.toNat * 4 + (if c.transpEn then 1 else 0))] ++ fieldLE c.delay.toNat
    ++ [tidx, 0x00]
    ++ (if c.commentLen.toNat > 0 then [0x21, 0xFE, c.commentLen] ++ text ++ [0x00] else [])
    ++ [0x2C, 0x00, 0x00, 0x00, 0x00] ++ fieldLE c.width.toNat ++ fieldLE c.height.toNat
    ++ (if first then [0x00] else 0x87 :: palette)

/-! ### Reading an LZW stream back, as a standard GIF decoder does (42_lzw.md R216; the decoder is PRESUMED, log 13) -/

/-- Data cut into sub-blocks of `limit` bytes, the last one shorter or full, each after its length byte (42_lzw.md R213). The
fuel is the length of the data. -/
def subBlocks (limit : Nat) : Nat → List Byte → List Byte
  | 0, _ => []
  | _ + 1, [] => []
  | fuel + 1, data =>
    BitVec.ofNat 8 (data.take limit).length :: (data.take limit ++ subBlocks limit fuel (data.drop limit))

/-- The data of a sequence of sub-blocks, up to the zero-length block or the end. The fuel is the length. -/
def deframe : Nat → List Byte → List Byte
  | 0, _ => []
  | _ + 1, [] => []
  | fuel + 1, n :: rest => if n = 0 then [] else rest.take n.toNat ++ deframe fuel (rest.drop n.toNat)

/-- The bits of the data, each byte from its least significant bit. -/
def bitsOf (data : List Byte) : List Bool := data.flatMap fun b => (List.range 8).map b.getLsbD

/-- The code whose bits these are, the least significant first. -/
def codeOfBits : List Bool → Nat
  | [] => 0
  | b :: bs => (if b then 1 else 0) + 2 * codeOfBits bs

/-- A GIF LZW decoder's table: the strings of codes 258, 259, ..., in order; the string of the code before; the code width. -/
structure LzwReader where
  /-- The strings of the codes from 258 on. -/
  table : List (List Byte)
  /-- The string of the code before, if a code came after the last Clear. -/
  before : Option (List Byte)
  /-- The width of the next code. -/
  width : Nat

/-- After a Clear. -/
def LzwReader.cleared : LzwReader := { table := [], before := none, width := 9 }

/-- The string a code stands for, the code just being defined included. -/
def LzwReader.stringOf (d : LzwReader) (code : Nat) : Option (List Byte) :=
  if code < 256 then some [BitVec.ofNat 8 code]
  else if 258 ≤ code then
    match d.table[code - 258]? with
    | some str => some str
    | none =>
      match d.before with
      | some p => if code = 258 + d.table.length then some (p ++ p.take 1) else none
      | none => none
  else none

/-- The table, the string before and the width after a code that stands for `str`. -/
def LzwReader.after (d : LzwReader) (str : List Byte) : LzwReader :=
  match d.before with
  | none => { d with before := some str }
  | some p =>
    if 258 + d.table.length < 4096 then
      let table := d.table ++ [p ++ str.take 1]
      { table := table, before := some str, width := if 258 + table.length = 2 ^ d.width ∧ d.width < 12 then d.width + 1 else d.width }
    else { d with before := some str }

/-- Decode a bit stream up to the EOI code: the pixels, or `none` if the stream is no LZW stream. -/
def lzwRead : Nat → LzwReader → List Bool → Option (List Byte)
  | 0, _, _ => none
  | fuel + 1, d, bits =>
    if bits.length < d.width then none
    else
      let code := codeOfBits (bits.take d.width)
      let rest := bits.drop d.width
      if code = 256 then lzwRead fuel LzwReader.cleared rest
      else if code = 257 then some []
      else
        match d.stringOf code with
        | none => none
        | some str => (lzwRead fuel (d.after str) rest).map (str ++ ·)

/-- What a standard decoder reads from the data sub-blocks of one frame. -/
def lzwDecodeFrame (blocks : List Byte) : Option (List Byte) :=
  let bits := bitsOf (deframe blocks.length blocks)
  lzwRead bits.length LzwReader.cleared bits

/-! ### Distances (41_quantizer.md R151, R162) -/

/-- The L1 distance of the entry at position `k` from a sample; 0 where there is no entry. -/
def distAt (net : List Neuron) (x : Colour) (k : Nat) : Int :=
  match net[k]? with
  | some n => (n.c0 - x.x0).natAbs + (n.c1 - x.x1).natAbs + (n.c2 - x.x2).natAbs
  | none => 0

/-- The L1 distance of an entry from a colour of three bytes. -/
def l1Dist (n : Neuron) (r g b : Byte) : Nat :=
  (n.c0 - r.toNat).natAbs + (n.c1 - g.toNat).natAbs + (n.c2 - b.toNat).natAbs

end Sys2Proof.Machine
end

