-- ==== Sys2Proof/Certificates/Slice0/Obligations.lean ====
section
/-! DEFINITION. The statements for the provers. Each docstring names the rules of spec/ it formalises. `completed` and `raised`
(Safety) spell out which fields a command's end writes; every other field stands unchanged in the same record, so an equation
of states is also the command's frame. The one thing they leave open is the datapath state, which after a command is a draw
(10_state.md R52): a free value stands in its place (log 9). -/

open Sys2Proof Sys2Proof.Machine

/-! ## Encoding and stepping -/

/-- 30_encoding.md R93, R90: the thirteen words, written out from the opcode map, and one word of each illegal kind (R96). -/
def Obligations.CommandWordsDecodeAsMapped : Prop :=
  decode 0x00000000 = .command .nop ∧ decode 0x00000001 = .command .configure ∧ decode 0x00000002 = .command .setQuality
    ∧ decode 0x00000003 = .command .setDelay ∧ decode 0x00000004 = .command .setFrameRate
    ∧ decode 0x00000005 = .command .setRepeat ∧ decode 0x00000006 = .command .setDisposal
    ∧ decode 0x00000007 = .command .setTransparent ∧ decode 0x00000008 = .command .setComment
    ∧ decode 0x00000010 = .command .start ∧ decode 0x00000011 = .command .addFrame ∧ decode 0x00000012 = .command .finish
    ∧ decode 0x0000001F = .command .resetSession
    ∧ decode 0x00000009 = .illegal .unassignedOpcode ∧ decode 0x00000110 = .illegal .reservedBits
    ∧ decode 0x80000001 = .illegal .reservedBits

/-- Decode and encode agree: a word is a command exactly when it is that command's encoding. No second word decodes to a
command, and no command's word decodes to another (30_encoding.md R90, R91, R93). -/
def Obligations.DecodeAcceptsExactlyEncodings : Prop :=
  ∀ (w : Word) (i : Instr), decode w = .command i ↔ w = encode i

/-- 30_encoding.md R96 and 60_exceptions.md R347: every word outside the opcode map is illegal, and executing it writes ERRCODE <- 7
and RESULT <- 0 and nothing else, in every state. -/
def Obligations.IllegalWordOnlyReports : Prop :=
  ∀ (s : State) (w : Word), s.executing = some { word := w, remaining := 0 } →
    (256 ≤ w.toNat ∨ (0x09 ≤ w.toNat ∧ w.toNat ≤ 0x0F) ∨ (0x13 ≤ w.toNat ∧ w.toNat ≤ 0x1E)
      ∨ (0x20 ≤ w.toNat ∧ w.toNat ≤ 0xFF)) →
    step s = .next (raised .illegalCommand s) ∧ errorBits .illegalCommand = 7
      ∧ (raised .illegalCommand s).errcodeWord = 0x00000007 ∧ (raised .illegalCommand s).statusWord.getLsbD 1 = false

/-- A step runs the decoded command: with a word in flight whose time is up, the step is that command's `exec`, or the
illegal-command action. Otherwise the step serves the host's next operation, and a command in flight comes one operation
nearer to its end (the model's reading of CMD_LATENCY, log 3). -/
def Obligations.StepRunsCommandInFlight : Prop :=
  (∀ (s : State) (w : Word) (i : Instr), s.executing = some { word := w, remaining := 0 } → decode w = .command i →
      step s = exec i s)
    ∧ (∀ (s : State) (w : Word) (why : Reject), s.executing = some { word := w, remaining := 0 } → decode w = .illegal why →
      step s = .next (raised .illegalCommand s))
    ∧ (∀ (s : State) (w : Word) (k : Nat), s.executing = some { word := w, remaining := k + 1 } →
      step s = .next (State.hostStep { s with executing := some { word := w, remaining := k } }))
    ∧ (∀ s : State, s.executing = none → step s = .next s.hostStep)

/-- The core does not stop after an error (60_exceptions.md R346), and it has no trap (60_exceptions.md, opening): every command
in every state, and every step, answers a next state. That a step which serves a refused access answers a next state too, with a
bus error in it, is the model's reading of 20_memory.md R71 (DEDUCED, log 15). -/
def Obligations.EveryStepGoesOn : Prop :=
  (∀ (i : Instr) (s : State), ∃ t, exec i s = .next t) ∧ ∀ s : State, ∃ t, step s = .next t

/-! ## The setting commands, 44_cmd_config.md -/

/-- R280, R297: what every setting command can do. InvalidState while FATAL = 1; ConfigurationError while locked or finished; in
every other state it completes, or its operands are out of range and it reports ConfigurationError. A command that raises
changes nothing but the report. -/
def Obligations.SettingsCompleteOrOnlyReport : Prop :=
  ∀ (i : Instr) (s : State), i.isSetting = true →
    RefusedUnlessSettable i s
      ∧ (Settable s → exec i s = .next (raised .configurationError s)
          ∨ ∃ t, exec i s = .next t ∧ t.errcode = .none ∧ t.result = true)

/-- R282 CONFIGURE: refused unless settable, then the range of both operands and of their exact product, then WIDTH, HEIGHT and
GEOM_SET. -/
def Obligations.ConfigureSetsGeometry : Prop :=
  encode .configure = 0x00000001
    ∧ (∀ s : State, RefusedUnlessSettable .configure s)
    ∧ ∀ s : State, Settable s →
      let w := s.arg0.toNat
      let h := s.arg1.toNat
      ((1 ≤ w ∧ w ≤ 65535 ∧ 1 ≤ h ∧ h ≤ 65535 ∧ w * h ≤ s.prm.maxPixels) →
        exec .configure s = .next (completed
          { s with cfg := { s.cfg with width := s.arg0.setWidth 16, height := s.arg1.setWidth 16 }, geomSet := true }))
      ∧ ((w < 1 ∨ w > 65535 ∨ h < 1 ∨ h > 65535 ∨ w * h > s.prm.maxPixels) →
        exec .configure s = .next (raised .configurationError s))

/-- R285 SET_QUALITY: 1 to 30, never clamped; 10 when it was never issued. -/
def Obligations.SetQualityStoresFactor : Prop :=
  encode .setQuality = 0x00000002 ∧ State.reset.cfg.quality = 10
    ∧ (∀ s : State, RefusedUnlessSettable .setQuality s)
    ∧ ∀ s : State, Settable s →
      ((1 ≤ s.arg0.toNat ∧ s.arg0.toNat ≤ 30) →
        exec .setQuality s = .next (completed { s with cfg := { s.cfg with quality := s.arg0.setWidth 5 } }))
      ∧ ((s.arg0.toNat < 1 ∨ s.arg0.toNat > 30) → exec .setQuality s = .next (raised .configurationError s))

/-- R287 SET_DELAY: the delay in centiseconds is `(ms + 5) fdiv 10`, computed without wrap. -/
def Obligations.SetDelayRoundsMilliseconds : Prop :=
  encode .setDelay = 0x00000003
    ∧ (∀ s : State, RefusedUnlessSettable .setDelay s)
    ∧ ∀ s : State, Settable s →
      (s.arg0.toNat ≤ 655354 → ∃ cs : BitVec 16, cs.toNat = (s.arg0.toNat + 5) / 10
        ∧ exec .setDelay s = .next (completed { s with cfg := { s.cfg with delay := cs } }))
      ∧ (655354 < s.arg0.toNat → exec .setDelay s = .next (raised .configurationError s))

/-- R289 SET_FRAME_RATE: `(200 + fps) fdiv (2·fps)`, at most 100. -/
def Obligations.SetFrameRateRoundsPeriod : Prop :=
  encode .setFrameRate = 0x00000004
    ∧ (∀ s : State, RefusedUnlessSettable .setFrameRate s)
    ∧ ∀ s : State, Settable s →
      (s.arg0.toNat ≠ 0 → ∃ cs : BitVec 16, cs.toNat = (200 + s.arg0.toNat) / (2 * s.arg0.toNat) ∧ cs.toNat ≤ 100
        ∧ exec .setFrameRate s = .next (completed { s with cfg := { s.cfg with delay := cs } }))
      ∧ (s.arg0 = 0 → exec .setFrameRate s = .next (raised .configurationError s))

/-- R291 SET_REPEAT, with ARG0 read as s32 (30_encoding.md R95): −1 to 65535. -/
def Obligations.SetRepeatStoresSignedCount : Prop :=
  encode .setRepeat = 0x00000005
    ∧ (∀ s : State, RefusedUnlessSettable .setRepeat s)
    ∧ ∀ s : State, Settable s →
      ((-1 ≤ s.arg0.toInt ∧ s.arg0.toInt ≤ 65535) →
        exec .setRepeat s = .next (completed { s with cfg := { s.cfg with loops := s.arg0 } }))
      ∧ ((s.arg0.toInt < -1 ∨ 65535 < s.arg0.toInt) → exec .setRepeat s = .next (raised .configurationError s))

/-- R292 SET_DISPOSAL: every code of three bits, stored as it is. -/
def Obligations.SetDisposalStoresCode : Prop :=
  encode .setDisposal = 0x00000006
    ∧ (∀ s : State, RefusedUnlessSettable .setDisposal s)
    ∧ ∀ s : State, Settable s →
      (s.arg0.toNat ≤ 7 →
        exec .setDisposal s = .next (completed { s with cfg := { s.cfg with disposal := s.arg0.setWidth 3 } }))
      ∧ (7 < s.arg0.toNat → exec .setDisposal s = .next (raised .configurationError s))

/-- R293 SET_TRANSPARENT: set, clear, and the range of both operands. -/
def Obligations.SetTransparentSetsOrClears : Prop :=
  encode .setTransparent = 0x00000007
    ∧ (∀ s : State, RefusedUnlessSettable .setTransparent s)
    ∧ ∀ s : State, Settable s →
      ((s.arg0.toNat ≤ 0xFFFFFF ∧ s.arg1 = 1) → exec .setTransparent s = .next (completed
          { s with cfg := { s.cfg with transpRgb := s.arg0.setWidth 24, transpEn := true } }))
      ∧ ((s.arg0.toNat ≤ 0xFFFFFF ∧ s.arg1 = 0) → exec .setTransparent s = .next (completed
          { s with cfg := { s.cfg with transpRgb := 0, transpEn := false } }))
      ∧ ((0xFFFFFF < s.arg0.toNat ∨ 1 < s.arg1.toNat) → exec .setTransparent s = .next (raised .configurationError s))

/-- R295 SET_COMMENT: the bytes come from CMTBUF at this command, COMMENT bytes at and above the length stay, and nothing else
changes. A CMTBUF byte nobody wrote is a draw (log 5), copied as it stands. -/
def Obligations.SetCommentCopiesStagedBytes : Prop :=
  encode .setComment = 0x00000008
    ∧ (∀ s : State, RefusedUnlessSettable .setComment s)
    ∧ ∀ s : State, Settable s →
      (s.arg0.toNat ≤ 255 → ∃ t : State, exec .setComment s = .next t
        ∧ (∀ k < s.arg0.toNat, t.commentByte k = s.byteAt (0x1000 + k))
        ∧ (∀ k, s.arg0.toNat ≤ k → t.commentByte k = s.commentByte k)
        ∧ t.cfg.commentLen.toNat = s.arg0.toNat
        ∧ t = completed { s with comment := t.comment, cfg := { s.cfg with commentLen := s.arg0.setWidth 8 } })
      ∧ (255 < s.arg0.toNat → exec .setComment s = .next (raised .configurationError s))

/-! ## The session commands, 45_cmd_session.md -/

/-- R328 NOP: completes in every state; only the report of the command before is cleared. -/
def Obligations.NopOnlyClearsReport : Prop :=
  encode .nop = 0x00000000 ∧ ∀ s : State, exec .nop s = .next (completed s)

/-- R310 START: the signature is appended byte by byte (20_memory.md R69), STATE becomes STARTED; a second START completes and
does nothing; FINISHED and FATAL refuse it. -/
def Obligations.StartWritesSignatureOnce : Prop :=
  encode .start = 0x00000010
    ∧ ∀ s : State,
      (s.fatal = false → s.lifecycle = .unconfigured → exec .start s = .next (completed
          { ([0x47, 0x49, 0x46, 0x38, 0x39, 0x61] : List Byte).foldl State.append s with lifecycle := .started }))
      ∧ (s.fatal = false → s.lifecycle = .started → exec .start s = .next (completed s))
      ∧ ((s.fatal = true ∨ s.lifecycle = .finished) → exec .start s = .next (raised .invalidState s))

/-- R312, 60_exceptions.md R343: the first three checks of ADD_FRAME, in their order. A check that fails reports its error and
changes nothing else. -/
def Obligations.AddFrameChecksInOrder : Prop :=
  ∀ s : State,
    ((s.fatal = true ∨ s.lifecycle ≠ .started) → exec .addFrame s = .next (raised .invalidState s))
    ∧ (s.fatal = false → s.lifecycle = .started → s.arg1 ≠ 0 → exec .addFrame s = .next (raised .invalidInputType s))
    ∧ (s.fatal = false → s.lifecycle = .started → s.arg1 = 0 → s.geomSet = false →
      exec .addFrame s = .next (raised .configurationError s))

/-- R316: a wrong length appends DM_TAIL, which may be any bytes, through Append, sets BUF_INVALID and reports
DimensionMismatch; OUT below the old OUT_LEN, FRAME_COUNT, LOCKED, STATE and every setting stay. Only the model's own count of
draws (log 7) changes beside them. -/
def Obligations.DimensionMismatchAppendsTail : Prop :=
  ∀ s : State, s.fatal = false → s.lifecycle = .started → s.arg1 = 0 → s.geomSet = true →
    s.arg0.toNat ≠ 4 * (s.cfg.width.toNat * s.cfg.height.toNat) →
    ∃ (tail : List Byte) (n : Nat), exec .addFrame s = .next (raised .dimensionMismatch
      { (tail.foldl State.append s) with bufInvalid := true, draws := n })

/-- R312, R313, R318: an accepted ADD_FRAME completes. It appends, byte by byte, the blocks of 43_container.md R240 in their
order, built from the frame's own palette, indices and transparent index; then it counts the frame and locks the settings. The
datapath state after it is a draw by 10_state.md R52 (`completed`, log 9), whatever the frame's own work left. -/
def Obligations.AddFrameAppendsFrameBlocks : Prop :=
  encode .addFrame = 0x00000011
    ∧ ∀ s : State, FrameAccepted s →
      let d := s.frameDatapath.datapath
      let code := (lzwEncode s.prm.subblockMax d.indices d.lzw).2
      let blocks := (if s.locked then [] else headerBlocks s.cfg d.palette)
        ++ frameBlocks (!s.locked) s.cfg d.palette s.commentBytes d.tidx ++ [0x08] ++ code ++ [0x00]
      exec .addFrame s = .next (completed
        { (blocks.foldl State.append s) with frameCount := s.frameCount + 1, locked := true })

/-- R320 FINISH: the trailer byte is appended, STATE becomes FINISHED; refused unless STARTED and not FATAL. -/
def Obligations.FinishWritesTrailer : Prop :=
  encode .finish = 0x00000012
    ∧ ∀ s : State,
      (s.fatal = false → s.lifecycle = .started →
        exec .finish s = .next (completed { s.append 0x3B with lifecycle := .finished }))
      ∧ ((s.fatal = true ∨ s.lifecycle ≠ .started) → exec .finish s = .next (raised .invalidState s))

/-- R325, 70_reset_and_hazards.md R371: RESET_SESSION completes in every state and restores a fresh session; ARG0, ARG1, PIXMEM,
CMTBUF and COMMENT stay. The datapath state is a draw afterwards, as after every command (10_state.md R52, log 9). -/
def Obligations.ResetSessionRestoresFreshSession : Prop :=
  encode .resetSession = 0x0000001F
    ∧ ∀ s : State, exec .resetSession s = .next
      { s with
        executing := none, lifecycle := .unconfigured, geomSet := false, locked := false, bufInvalid := false, fatal := false,
        ovf := false, result := true, errcode := .none, out := [], frameCount := 0,
        cfg := { width := 0, height := 0, quality := 10, delay := 0, loops := 0xFFFFFFFF, disposal := 0, transpRgb := 0,
                 transpEn := false, commentLen := 0 },
        dp := .draw s.draws, draws := s.draws + 1 }

/-- 70_reset_and_hazards.md R370, 10_state.md R56: what power-on reset leaves in the registers, at any time, also while a command
is in flight; no byte of any memory is known afterwards (the model lists none, log 5), and the parameters stay. -/
def Obligations.PowerOnResetsEveryRegister : Prop :=
  ∀ s : State, ∃ t : State, s.serve .powerOnReset = t
    ∧ t.statusWord = 0x00000002 ∧ t.errcodeWord = 0 ∧ t.outLen = 0 ∧ t.frameCount = 0 ∧ t.arg0 = 0 ∧ t.arg1 = 0
    ∧ t.cfg = State.reset.cfg ∧ t.executing = none ∧ t.prm = s.prm ∧ t.mem = [] ∧ t.comment = [] ∧ t.program = s.program
    ∧ State.reset.statusWord = 0x00000002 ∧ State.reset.cfg.geomWord = 0 ∧ State.reset.cfg.qualityWord = 10
    ∧ State.reset.cfg.delayWord = 0 ∧ State.reset.cfg.loops = 0xFFFFFFFF ∧ State.reset.cfg.disposalWord = 0
    ∧ State.reset.cfg.transpWord = 0 ∧ State.reset.cfg.commentLenWord = 0

/-! ## Rules about every command -/

/-- 10_state.md R24, R25, R45 and 20_memory.md R62, R64: no command writes ARG0, ARG1, the parameters, or any byte of PIXMEM or
CMTBUF; nor anything of the host port. -/
def Obligations.CommandsNeverWriteHostSide : Prop :=
  ∀ (i : Instr) (s t : State), exec i s = .next t →
    t.arg0 = s.arg0 ∧ t.arg1 = s.arg1 ∧ t.prm = s.prm ∧ (∀ off, t.byteAt off = s.byteAt off) ∧ t.program = s.program
      ∧ t.response = s.response ∧ t.latencies = s.latencies ∧ t.expectOk = s.expectOk ∧ t.executing = none

/-- 10_state.md R29: only START, FINISH and RESET_SESSION change STATE. -/
def Obligations.OnlyLifecycleCommandsChangeState : Prop :=
  ∀ (i : Instr) (s t : State), exec i s = .next t → t.lifecycle ≠ s.lifecycle →
    (i = .start ∧ s.lifecycle = .unconfigured ∧ t.lifecycle = .started)
      ∨ (i = .finish ∧ s.lifecycle = .started ∧ t.lifecycle = .finished)
      ∨ (i = .resetSession ∧ t.lifecycle = .unconfigured)

/-- 10_state.md R31 to R34: BUF_INVALID, OVF, FATAL and LOCKED are cleared by no command but RESET_SESSION, and that one clears
all four. -/
def Obligations.StickyBitsClearedOnlyByReset : Prop :=
  ∀ (i : Instr) (s t : State), exec i s = .next t →
    (i ≠ .resetSession →
      (s.bufInvalid = true → t.bufInvalid = true) ∧ (s.ovf = true → t.ovf = true) ∧ t.fatal = s.fatal
        ∧ (s.locked = true → t.locked = true))
    ∧ (i = .resetSession → t.bufInvalid = false ∧ t.ovf = false ∧ t.fatal = false ∧ t.locked = false)

/-- 60_exceptions.md R349: while FATAL = 1, every command except NOP, RESET_SESSION and an undecodable word raises InvalidState
without any other effect. RESET_SESSION is the only way out: it clears FATAL, and NOP and an undecodable word do not. -/
def Obligations.FatalGatesEveryCommand : Prop :=
  (∀ (i : Instr) (s : State), s.fatal = true →
    (i ≠ .nop → i ≠ .resetSession → exec i s = .next (raised .invalidState s))
    ∧ (i = .nop → exec i s = .next (completed s))
    ∧ (i = .resetSession → ∃ t, exec i s = .next t ∧ t.errcode = .none ∧ t.result = true ∧ t.fatal = false))
  ∧ ∀ (s : State) (w : Word) (why : Reject), decode w = .illegal why →
    runCommand w s = .next (raised .illegalCommand s)

/-- 45_cmd_session.md R321: in FINISHED only NOP and RESET_SESSION complete; the session commands raise InvalidState and the
setting commands ConfigurationError; none of them, nor NOP, changes OUT, so it is final until RESET_SESSION. -/
def Obligations.FinishedRefusesTheRest : Prop :=
  ∀ (i : Instr) (s : State), s.fatal = false → s.lifecycle = .finished →
    ((i = .start ∨ i = .addFrame ∨ i = .finish) → exec i s = .next (raised .invalidState s))
    ∧ (i.isSetting = true → exec i s = .next (raised .configurationError s))
    ∧ (i = .nop → exec i s = .next (completed s))
    ∧ (i = .resetSession → ∃ t, exec i s = .next t ∧ t.errcode = .none ∧ t.result = true)

/-- 60_exceptions.md R345, R346: a command that raises an error other than DimensionMismatch makes no other state change (what a
DimensionMismatch changes: DimensionMismatchAppendsTail); and a command completes exactly when it reports code 0. -/
def Obligations.FailedCommandChangesOnlyReport : Prop :=
  ∀ (i : Instr) (s t : State), exec i s = .next t →
    (t.result = true ↔ t.errcode = .none)
    ∧ (t.result = false → t.errcode ≠ .dimensionMismatch → t = raised t.errcode s)

/-- 60_exceptions.md R348: no command reports code 2 or 3, and none sets FATAL. -/
def Obligations.FatalCodesHaveNoTrigger : Prop :=
  ∀ (i : Instr) (s t : State), exec i s = .next t →
    t.errcode ≠ .quantizerInitError ∧ t.errcode ≠ .compressorInitError ∧ (t.fatal = true → s.fatal = true)

/-- 45_cmd_session.md R315, 10_state.md R48: once LOCKED, no command but RESET_SESSION changes a setting, the geometry or the
comment; and ADD_FRAME changes none in any state. -/
def Obligations.SettingsFrozenOnceLocked : Prop :=
  ∀ (i : Instr) (s t : State), exec i s = .next t → i ≠ .resetSession → (s.locked = true ∨ i = .addFrame) →
    t.cfg = s.cfg ∧ t.geomSet = s.geomSet ∧ t.commentBytes = s.commentBytes

/-- 10_state.md R37: FRAME_COUNT rises by 1, modulo 2^32, at each completed ADD_FRAME, is zeroed by RESET_SESSION, and is
changed by nothing else. -/
def Obligations.FrameCountCountsCompletedFrames : Prop :=
  ∀ (i : Instr) (s t : State), exec i s = .next t →
    (i = .resetSession → t.frameCount = 0)
    ∧ (i ≠ .resetSession →
      (if i = .addFrame ∧ t.result = true then t.frameCount.toNat = (s.frameCount.toNat + 1) % 2 ^ 32
       else t.frameCount = s.frameCount))

/-- 20_memory.md R80: OUT is append-only. A step changes no byte below OUT_LEN and never shortens OUT, but for the step that runs
RESET_SESSION and the one that serves a power-on reset, after which OUT is empty. -/
def Obligations.OutputIsAppendOnly : Prop :=
  ∀ s t : State, step s = .next t →
    s.out <+: t.out
    ∨ (t.out = [] ∧ (s.executing = some { word := 0x0000001F, remaining := 0 } ∨ s.program.head? = some .powerOnReset))

/-- 20_memory.md R69: Append stores the byte behind OUT while there is room, and otherwise drops it, sets OVF and BUF_INVALID
and changes nothing else. 00_scope.md R15: AppendSeq, written at once in the model (log 12), is Append of each byte, first to
last. -/
def Obligations.AppendSeqIsAppendOfEachByte : Prop :=
  (∀ (s : State) (b : Byte), s.out.length < s.prm.outCap → s.append b = { s with out := s.out ++ [b] })
    ∧ (∀ (s : State) (b : Byte), s.prm.outCap ≤ s.out.length → s.append b = { s with ovf := true, bufInvalid := true })
    ∧ ∀ (s : State) (bs : List Byte), s.appendSeq bs = bs.foldl State.append s

/-- The legal states (Safety, `Inv`) hold right after reset. -/
def Obligations.ResetStateIsLegal : Prop := Inv State.reset

/-- Every step keeps the legal states, whatever the host does next: canonical memory, OUT within OUT_CAP and shaped as a GIF,
legal settings and geometry, RESULT agreeing with ERRCODE, FATAL never set. -/
def Obligations.StepKeepsLegalStates : Prop :=
  ∀ s t : State, Inv s → step s = .next t → Inv t

/-- 43_container.md R260: whatever run leads there from a legal state, in a finished session that dropped no byte OUT begins with
GIF89a and ends with 0x3B. -/
def Obligations.FinishedOutputIsFramed : Prop :=
  ∀ (s : State) (n : Nat) (t : State), Inv s → Host.Core.run Sys2Proof.core n s = .next t → t.lifecycle = .finished → t.ovf = false →
    ([0x47, 0x49, 0x46, 0x38, 0x39, 0x61] : List Byte) <+: t.out ∧ t.out.getLast? = some 0x3B

/-! ## The host port, 20_memory.md -/

/-- R60, R65, R66, R67: exactly which accesses are answered. Registers: 4 bytes at a multiple of 4 inside the block. Windows: 1, 2
or 4 bytes, aligned to their size, every byte inside the window. Everything else has no region and is refused. -/
def Obligations.AccessMapIsExact : Prop :=
  ∀ (p : Config.Params) (a n : Nat), p.wellFormed = true →
    (accessRegion p a n = some .registers ↔ (a < 0x1000 ∧ n = 4 ∧ a % 4 = 0))
    ∧ (accessRegion p a n = some .cmtbuf ↔
      (0x1000 ≤ a ∧ a + n ≤ 0x1000 + 255 ∧ (n = 1 ∨ n = 2 ∨ n = 4) ∧ a % n = 0))
    ∧ (accessRegion p a n = some .pixmem ↔
      (0x10000000 ≤ a ∧ a + n ≤ 0x10000000 + 4 * p.maxPixels ∧ (n = 1 ∨ n = 2 ∨ n = 4) ∧ a % n = 0))
    ∧ (accessRegion p a n = some .outmem ↔
      (0x80000000 ≤ a ∧ a + n ≤ 0x80000000 + p.outCap ∧ (n = 1 ∨ n = 2 ∨ n = 4) ∧ a % n = 0))

/-- R71: a refused access changes no state and answers with a bus error; R66, R67, R68 say when a write is refused: while BUSY =
1, at an offset with no region, at OUTMEM, at every register but CMD, ARG0 and ARG1. A read is refused exactly where there is no
region, or at a reserved offset of the register block, which is every aligned one above 0x048 (10_state.md R47). -/
def Obligations.RefusedAccessChangesNothing : Prop :=
  ∀ (s : State) (off : Word) (n : Nat) (v : Word),
    ((s.busRead off n).1 = .busError → (s.busRead off n).2 = s)
    ∧ ((s.busWrite off n v).1 = .busError → (s.busWrite off n v).2 = s)
    ∧ ((s.busy = true ∨ accessRegion s.prm off.toNat n = none ∨ accessRegion s.prm off.toNat n = some .outmem
        ∨ (accessRegion s.prm off.toNat n = some .registers ∧ off ≠ 0x008 ∧ off ≠ 0x00C ∧ off ≠ 0x010)) ↔
      (s.busWrite off n v).1 = .busError)
    ∧ ((accessRegion s.prm off.toNat n = none ∨ (accessRegion s.prm off.toNat n = some .registers ∧ 0x048 < off.toNat)) ↔
      (s.busRead off n).1 = .busError)

/-- R66, 10_state.md R23 to R25: while idle, an aligned word write of ARG0 or ARG1 stores all 32 bits and a read returns the
last value written; a write of CMD starts the command and raises BUSY; CMD reads as 0. -/
def Obligations.OperandAndCommandRegistersWork : Prop :=
  ∀ (s : State) (v : Word), s.busy = false →
    s.busWrite 0x00C 4 v = (.accepted, { s with arg0 := v })
    ∧ s.busWrite 0x010 4 v = (.accepted, { s with arg1 := v })
    ∧ (s.busRead 0x00C 4).1 = .data s.arg0 ∧ (s.busRead 0x010 4).1 = .data s.arg1
    ∧ (s.busWrite 0x008 4 v).1 = .accepted ∧ (s.busWrite 0x008 4 v).2.busy = true
    ∧ SameCore s (s.busWrite 0x008 4 v).2 ∧ (∃ k, (s.busWrite 0x008 4 v).2.executing = some { word := v, remaining := k })
    ∧ (s.busRead 0x008 4).1 = .data 0

/-- R67: a write of PIXMEM or CMTBUF while idle stores the low bytes of the data, the lowest at the lowest address, and no other
byte; a read of the same place gives that data back. -/
def Obligations.WindowWriteThenReadGivesData : Prop :=
  ∀ (s : State) (off v : Word) (n : Nat), s.busy = false →
    (accessRegion s.prm off.toNat n = some .pixmem ∨ accessRegion s.prm off.toNat n = some .cmtbuf) →
    ∃ t : State, s.busWrite off n v = (.accepted, t)
      ∧ (∀ i < n, t.byteAt (off.toNat + i) = v.extractLsb' (8 * i) 8)
      ∧ (∀ a, (a < off.toNat ∨ off.toNat + n ≤ a) → t.byteAt a = s.byteAt a)
      ∧ t = { s with mem := t.mem }
      ∧ (t.busRead off n).1 = .data (BitVec.ofNat 32 (v.toNat % 2 ^ (8 * n)))

/-- R63, R67: while idle, an aligned read of 1, 2 or 4 bytes of OUTMEM gives, little-endian and zero-extended, every byte of OUT it
covers. Bytes at and above OUT_LEN are draws, of which nothing is said; a read of bytes below OUT_LEN alone takes none and leaves
the state as it is. -/
def Obligations.OutputReadBackGivesOut : Prop :=
  ∀ (s : State) (k n : Nat), s.busy = false → s.prm.wellFormed = true →
    accessRegion s.prm (0x80000000 + k) n = some .outmem →
    ∃ (v : Word) (t : State), s.busRead (BitVec.ofNat 32 (0x80000000 + k)) n = (.data v, t)
      ∧ v.toNat < 2 ^ (8 * n)
      ∧ (∀ i < n, (h : k + i < s.out.length) → v.extractLsb' (8 * i) 8 = s.out[k + i])
      ∧ (k + n ≤ s.out.length → t = s)

/-- R73, R63, R68: no read has a side effect on the core; at most the model's own count of draws (log 7) rises. -/
def Obligations.ReadsHaveNoSideEffect : Prop :=
  ∀ (s : State) (off : Word) (n : Nat), ∃ d, s.draws ≤ d ∧ (s.busRead off n).2 = { s with draws := d }

/-- 10_state.md R20, R21, R26, R45: STATUS field by field and the constants, in every state, also while BUSY = 1. Beside them, while
idle, the layouts of ERRCODE (R35, with the numbers of 60_exceptions.md R340), OUT_LEN (R36), FRAME_COUNT (R37) and the CFG
registers (R38 to R44), reserved bits included. None of these registers can be written. -/
def Obligations.StatusAndConstantsReadAsLaidOut : Prop :=
  (∀ s : State,
    s.statusWord.getLsbD 0 = s.busy ∧ s.statusWord.getLsbD 1 = s.result
      ∧ (s.statusWord.extractLsb' 2 2 = match s.lifecycle with | .unconfigured => 0 | .started => 1 | .finished => 2)
      ∧ s.statusWord.getLsbD 4 = s.geomSet ∧ s.statusWord.getLsbD 5 = s.locked ∧ s.statusWord.getLsbD 6 = s.bufInvalid
      ∧ s.statusWord.getLsbD 7 = s.fatal ∧ s.statusWord.getLsbD 8 = s.ovf ∧ s.statusWord.extractLsb' 9 23 = 0)
  ∧ (∀ s : State, (s.busRead 0x000 4).1 = .data 0x4E514C47 ∧ (s.busRead 0x004 4).1 = .data 1
      ∧ (s.busRead 0x014 4).1 = .data s.statusWord
      ∧ (s.busRead 0x040 4).1 = .data (BitVec.ofNat 32 s.prm.maxPixels)
      ∧ (s.busRead 0x044 4).1 = .data (BitVec.ofNat 32 s.prm.outCap)
      ∧ (s.busRead 0x048 4).1 = .data (BitVec.ofNat 32 s.prm.subblockMax))
  ∧ (∀ s : State, s.busy = false →
      (s.busRead 0x018 4).1 = .data (match s.errcode with
        | .none => 0 | .configurationError => 1 | .quantizerInitError => 2 | .compressorInitError => 3
        | .dimensionMismatch => 4 | .invalidInputType => 5 | .invalidState => 6 | .illegalCommand => 7)
      ∧ (s.busRead 0x01C 4).1 = .data (BitVec.ofNat 32 s.out.length)
      ∧ (s.busRead 0x020 4).1 = .data s.frameCount
      ∧ (∃ v : Word, (s.busRead 0x024 4).1 = .data v ∧ v.extractLsb' 0 16 = s.cfg.width ∧ v.extractLsb' 16 16 = s.cfg.height)
      ∧ (∃ v : Word, (s.busRead 0x028 4).1 = .data v ∧ v.extractLsb' 0 5 = s.cfg.quality ∧ v.extractLsb' 5 27 = 0)
      ∧ (∃ v : Word, (s.busRead 0x02C 4).1 = .data v ∧ v.extractLsb' 0 16 = s.cfg.delay ∧ v.extractLsb' 16 16 = 0)
      ∧ (s.busRead 0x030 4).1 = .data s.cfg.loops
      ∧ (∃ v : Word, (s.busRead 0x034 4).1 = .data v ∧ v.extractLsb' 0 3 = s.cfg.disposal ∧ v.extractLsb' 3 29 = 0)
      ∧ (∃ v : Word, (s.busRead 0x038 4).1 = .data v ∧ v.extractLsb' 0 24 = s.cfg.transpRgb ∧ v.getLsbD 24 = s.cfg.transpEn
          ∧ v.extractLsb' 25 7 = 0)
      ∧ (∃ v : Word, (s.busRead 0x03C 4).1 = .data v ∧ v.extractLsb' 0 8 = s.cfg.commentLen ∧ v.extractLsb' 8 24 = 0))
  ∧ (∀ (s : State) (v off : Word),
      off ∈ ([0x000, 0x004, 0x014, 0x018, 0x01C, 0x020, 0x024, 0x028, 0x02C, 0x030, 0x034, 0x038, 0x03C, 0x040, 0x044, 0x048]
        : List Word) →
      s.busWrite off 4 v = (.busError, s))

/-- R68, 70_reset_and_hazards.md R382, R384: while a command is in flight and its time is not up, a step that serves no power-on
reset changes nothing of the core: every write is refused, and nothing of the command shows before BUSY falls. The command
comes one operation nearer to its end (log 3). -/
def Obligations.NothingChangesWhileBusy : Prop :=
  ∀ (s t : State) (w : Word) (k : Nat), s.executing = some { word := w, remaining := k + 1 } →
    s.program.head? ≠ some .powerOnReset → step s = .next t →
    SameCore s t ∧ t.executing = some { word := w, remaining := k }
      ∧ (∀ off n v, s.program.head? = some (.write off n v) → t.response = some .busError)

/-- 70_reset_and_hazards.md R385: the time of a command is finite. A command in flight with `k` host operations to go (the
model's CMD_LATENCY, log 3) is still in flight after `k` steps, with the core unchanged (R384), and the next step ends it:
BUSY is 0 again. -/
def Obligations.CommandEndsInFiniteTime : Prop :=
  ∀ (s : State) (w : Word) (k : Nat), s.executing = some { word := w, remaining := k } → BusOp.powerOnReset ∉ s.program →
    ∃ t u : State, Host.Core.run Sys2Proof.core k s = .next t ∧ SameCore s t
      ∧ t.executing = some { word := w, remaining := 0 } ∧ step t = .next u ∧ u.busy = false

/-! ## The datapath of a frame, 40_sampler_indexer.md and 41_quantizer.md -/

/-- R120, R123: S is the RGB bytes of the pixels in order, three per pixel, and the index of each pixel is the lookup of its own
three samples. The alpha byte has no place in either. 41_quantizer.md R165, R160, R163 and 40_sampler_indexer.md R126: the frame's
palette is read from the network trained on S with QUALITY, before that network is sorted, the lookups read the sorted one, and
whatever quantizer state `q0` training starts from, the outcome is the same. A frame's own work leaves just these. -/
def Obligations.SamplesAndIndicesFollowPixels : Prop :=
  ∀ s : State,
    let smp := s.sampleFrame.datapath.samples
    let idx := (s.sampleFrame.quantize.indexFrame).datapath.indices
    let q := s.sampleFrame.quantize.datapath.quant
    let d := s.frameDatapath.datapath
    (smp.length = 3 * (s.cfg.width.toNat * s.cfg.height.toNat) ∧ idx.length = s.cfg.width.toNat * s.cfg.height.toNat
      ∧ ∀ k < s.cfg.width.toNat * s.cfg.height.toNat,
        smp[3 * k]? = some (s.byteAt (0x10000000 + 4 * k)) ∧ smp[3 * k + 1]? = some (s.byteAt (0x10000000 + 4 * k + 1))
          ∧ smp[3 * k + 2]? = some (s.byteAt (0x10000000 + 4 * k + 2))
          ∧ idx[k]? = some (nqNearest q (s.byteAt (0x10000000 + 4 * k)) (s.byteAt (0x10000000 + 4 * k + 1))
              (s.byteAt (0x10000000 + 4 * k + 2))))
    ∧ (∀ q0 : Quant,
        let trained := nqUnbias (nqLearn smp (nqLearnSetup smp.length s.cfg.quality.toNat (nqInit q0)))
        d.palette = nqPalette trained.net ∧ q = nqIndexBuild trained)
    ∧ d.samples = smp ∧ d.indices = idx ∧ d.quant = q
    ∧ d.tidx = s.sampleFrame.quantize.indexFrame.transparentIndex.datapath.tidx

/-- R121: the alpha bytes are never read. Two states whose memories differ only there do the same at ADD_FRAME, alpha bytes
apart. -/
def Obligations.AlphaNeverMatters : Prop :=
  ∀ (s t : State) (m : Memory),
    (∀ k j, j < 3 → State.pixRead { s with mem := m } (4 * k + j) = s.pixRead (4 * k + j)) →
    exec .addFrame s = .next t → exec .addFrame { s with mem := m } = .next { t with mem := m }

/-- 10_state.md R52, 70_reset_and_hazards.md R388: no command reads the datapath state it finds. Whatever stood there, the command
gives the same next state, the bytes appended to OUT among them. -/
def Obligations.DatapathNeverReadAcrossCommands : Prop :=
  ∀ (i : Instr) (s : State) (d : DatapathContents), exec i { s with dp := d } = exec i s

/-- R124: TIDX is the lookup of TRANSP_RGB's three bytes in the frame's own network while TRANSP_EN = 1, else 0. -/
def Obligations.TransparentIndexIsLookupOrZero : Prop :=
  ∀ s : State, ∃ tidx : Byte, s.transparentIndex = s.setDatapath { s.datapath with tidx := tidx }
    ∧ (s.cfg.transpEn = true → tidx = nqNearest s.datapath.quant (BitVec.ofNat 8 (s.cfg.transpRgb.toNat / 65536))
        (BitVec.ofNat 8 (s.cfg.transpRgb.toNat / 256)) (BitVec.ofNat 8 s.cfg.transpRgb.toNat))
    ∧ (s.cfg.transpEn = false → tidx = 0)

/-- 41_quantizer.md R144 to R150: for every frame, what NQ_LearnSetup gives the training parameters; NQ_Learn is SAMPLEPIXELS turns
of one loop; and at every turn of it PIX is a multiple of 3 below L, so that the three bytes read are one pixel's samples, the
neurons move for those samples by the ALPHA, RAD and RADPOWER of before the turn's decay, PIX goes on by STEP around L, ALPHA and
RADIUS fall exactly when DELTA divides the count of turns, and RAD and RADPOWER follow them. -/
def Obligations.SamplingStaysInsideFrame : Prop :=
  ∀ (samples : List Byte) (pixels quality : Nat) (q : Quant), samples.length = 3 * pixels → 1 ≤ pixels →
    let len := samples.length
    let setup := nqLearnSetup len quality q
    let turn : Nat → Quant := fun k => nqLearnLoop samples len k { setup with pix := 0, i := 0 }
    (setup.qEff = (if len < 1509 then 1 else quality) ∧ setup.alphadec = 30 + (setup.qEff - 1) / 3
      ∧ setup.samplepixels = len / (3 * setup.qEff) ∧ setup.delta = max 1 (setup.samplepixels / 100)
      ∧ setup.alpha = 1024 ∧ setup.radius = 2048 ∧ setup.rad = 32
      ∧ setup.stride = (if len < 1509 then 3 else if len % 499 ≠ 0 then 1497 else if len % 491 ≠ 0 then 1473
          else if len % 487 ≠ 0 then 1461 else 1509))
    ∧ nqLearn samples setup = turn setup.samplepixels
    ∧ ∀ k : Nat,
      let now := turn k
      let next := turn (k + 1)
      let x : Colour := { x0 := 16 * ((samples.getD now.pix 0).toNat : Nat), x1 := 16 * ((samples.getD (now.pix + 1) 0).toNat : Nat),
                          x2 := 16 * ((samples.getD (now.pix + 2) 0).toNat : Nat) }
      let won := nqContest x now
      let moved := nqAlterSingle now.alpha won.1.toNat x won.2
      now.pix % 3 = 0 ∧ now.pix < len ∧ now.i = k
        ∧ next.pix = (if now.pix + setup.stride ≥ len then now.pix + setup.stride - len else now.pix + setup.stride)
        ∧ next.net = (if now.rad ≠ 0 then (nqAlterNeigh now.rad won.1.toNat x moved).net else moved.net)
        ∧ next.freq = won.2.freq ∧ next.bias = won.2.bias
        ∧ next.alpha = (if (k + 1) % setup.delta = 0 then now.alpha - now.alpha / setup.alphadec else now.alpha)
        ∧ next.radius = (if (k + 1) % setup.delta = 0 then now.radius - now.radius / 30 else now.radius)
        ∧ now.rad = (if now.radius / 64 ≤ 1 then 0 else now.radius / 64)
        ∧ ∀ m < now.rad, now.radpower[m]? = some (now.alpha * ((now.rad * now.rad - m * m) * 256 / (now.rad * now.rad)))

/-- 41_quantizer.md R141, R157: whatever the samples and for every legal QUALITY, training keeps every channel in 0 to 4080, and
after NQ_Unbias there are 256 entries, each channel is in 0 to 255, and the entry at position p has colour number p. R156:
NQ_Unbias gives every entry its channels divided by 16, rounded down, and its position as colour number. -/
def Obligations.TrainedChannelsStayInRange : Prop :=
  (∀ (samples : List Byte) (quality : Nat) (q : Quant), 1 ≤ quality → quality ≤ 30 →
    (∀ n ∈ (nqLearn samples (nqLearnSetup samples.length quality (nqInit q))).net,
      0 ≤ n.c0 ∧ n.c0 ≤ 4080 ∧ 0 ≤ n.c1 ∧ n.c1 ≤ 4080 ∧ 0 ≤ n.c2 ∧ n.c2 ≤ 4080)
    ∧ (nqTrained samples quality q).net.length = 256
    ∧ (∀ n ∈ (nqTrained samples quality q).net,
      0 ≤ n.c0 ∧ n.c0 ≤ 255 ∧ 0 ≤ n.c1 ∧ n.c1 ≤ 255 ∧ 0 ≤ n.c2 ∧ n.c2 ≤ 255)
    ∧ (∀ p, (h : p < (nqTrained samples quality q).net.length) → ((nqTrained samples quality q).net[p]).idx.toNat = p))
  ∧ ∀ (q : Quant) (p : Nat),
    (nqUnbias q).net[p]? = (q.net[p]?).map fun n =>
      { c0 := Int.fdiv n.c0 16, c1 := Int.fdiv n.c1 16, c2 := Int.fdiv n.c2 16, idx := BitVec.ofNat 8 p }

/-- 41_quantizer.md R151, R152: a contest over 256 neurons gives as biased winner the first neuron of least biased distance, with
the bias as it was before; the first neuron of least distance gains 64 frequency and loses 65536 bias after every neuron's
decay. The neurons do not move. -/
def Obligations.ContestPicksFirstLeast : Prop :=
  ∀ (q : Quant) (x : Colour), q.net.length = 256 → q.freq.length = 256 → q.bias.length = 256 →
    let dist : Nat → Int := fun k => distAt q.net x k
    let biased : Nat → Int := fun k => distAt q.net x k - q.bias.getD k 0 / 4096
    (∀ k < 256, dist k < 0x7FFFFFFF ∧ biased k < 0x7FFFFFFF) →
    ∃ j p : Nat, j < 256 ∧ p < 256 ∧ (nqContest x q).1 = j
      ∧ (∀ k < 256, biased j ≤ biased k) ∧ (∀ k < j, biased j < biased k)
      ∧ (∀ k < 256, dist p ≤ dist k) ∧ (∀ k < p, dist p < dist k)
      ∧ (nqContest x q).2.freq.length = 256 ∧ (nqContest x q).2.bias.length = 256
      ∧ (∀ k < 256, (nqContest x q).2.freq.getD k 0 = q.freq.getD k 0 - q.freq.getD k 0 / 1024 + (if k = p then 64 else 0))
      ∧ (∀ k < 256, (nqContest x q).2.bias.getD k 0
          = q.bias.getD k 0 + q.freq.getD k 0 / 1024 * 1024 - (if k = p then 65536 else 0))
      ∧ (nqContest x q).2.net = q.net

/-- 41_quantizer.md R142: NQ_Init lays 256 neurons along the grey diagonal, neuron i at 16·i with colour number i, with frequency 256
and bias 0. R141: BIAS[i] = 1024·(256 − FREQ[i]) holds then, and every contest keeps it. -/
def Obligations.ContestKeepsBiasIdentity : Prop :=
  (∀ q : Quant,
    (nqInit q).net.length = 256 ∧ (nqInit q).freq.length = 256 ∧ (nqInit q).bias.length = 256
    ∧ ∀ i < 256,
      (nqInit q).net[i]? = some { c0 := (16 * i : Nat), c1 := (16 * i : Nat), c2 := (16 * i : Nat), idx := BitVec.ofNat 8 i }
        ∧ (nqInit q).freq[i]? = some 256 ∧ (nqInit q).bias[i]? = some 0)
  ∧ (∀ q : Quant, (nqInit q).bias = (nqInit q).freq.map fun f => 1024 * (256 - f))
  ∧ ∀ (q : Quant) (x : Colour), (q.bias = q.freq.map fun f => 1024 * (256 - f)) →
    (nqContest x q).2.bias = (nqContest x q).2.freq.map fun f => 1024 * (256 - f)

/-- 41_quantizer.md R153: NQ_AlterSingle moves neuron j by the fraction alpha/1024, truncated toward zero, and no other. R154, R155:
the neighbour update moves the neuron at distance m from the winner, 1 ≤ m < rad, by the fraction RADPOWER[m]/262144, and moves no
other. The loop, its order and its clipping come to just this. -/
def Obligations.NeighbourUpdateIsDistanceWeighted : Prop :=
  (∀ (q : Quant) (x : Colour) (alpha j p : Nat),
    (nqAlterSingle alpha j x q).net[p]? =
      (q.net[p]?).map fun n =>
        if p = j then
          { n with
            c0 := n.c0 - Int.tdiv (alpha * (n.c0 - x.x0)) 1024
            c1 := n.c1 - Int.tdiv (alpha * (n.c1 - x.x1)) 1024
            c2 := n.c2 - Int.tdiv (alpha * (n.c2 - x.x2)) 1024 }
        else n)
  ∧ ∀ (q : Quant) (x : Colour) (rad j p : Nat), q.net.length = 256 → j < 256 → p < 256 →
    (nqAlterNeigh rad j x q).net[p]? =
      (q.net[p]?).map fun n =>
        let m := if p ≤ j then j - p else p - j
        if 1 ≤ m ∧ m < rad then
          { n with
            c0 := n.c0 - Int.tdiv ((q.radpower.getD m 0 : Nat) * (n.c0 - x.x0)) 262144
            c1 := n.c1 - Int.tdiv ((q.radpower.getD m 0 : Nat) * (n.c1 - x.x1)) 262144
            c2 := n.c2 - Int.tdiv ((q.radpower.getD m 0 : Nat) * (n.c2 - x.x2)) 262144 }
        else n

/-- 41_quantizer.md R158, R159: NQ_IndexBuild only reorders the entries, into nondecreasing order of c[1]. It does so by the very
swaps of R158: the first entry p of least c[1] comes first, the entry it displaced stands where it stood, and what is behind the
first place is sorted in the same way, which fixes the order of equal keys. On 256 entries with byte
keys NETINDEX has 256 entries, and NETINDEX[g] is a position from the first entry whose c[1] equals g to the one behind the last,
halfway between them, when such an entry exists; otherwise it is the first entry with a larger c[1], or 255. Here `below g` entries
have c[1] < g and `upto g` have c[1] ≤ g. The runs as the model writes them (log 12) come to just this. -/
def Obligations.IndexBuildSortsOnGreen : Prop :=
  (∀ q : Quant, (nqIndexBuild q).net.Perm q.net ∧ (nqIndexBuild q).net.Pairwise fun a b => a.c1 ≤ b.c1)
  ∧ (∀ (q : Quant) (x : Neuron) (xs : List Neuron), q.net = x :: xs →
    ∃ (p : Nat) (least : Neuron), q.net[p]? = some least ∧ (∀ n ∈ q.net, least.c1 ≤ n.c1) ∧ (∀ n ∈ q.net.take p, least.c1 < n.c1)
      ∧ (nqIndexBuild q).net = least :: (nqIndexBuild { q with net := (q.net.set p x).tail }).net)
  ∧ ∀ q : Quant, q.net.length = 256 → (∀ n ∈ q.net, 0 ≤ n.c1 ∧ n.c1 ≤ 255) →
    let below : Nat → Nat := fun g => q.net.countP fun n => n.c1 < (g : Int)
    let upto : Nat → Nat := fun g => q.net.countP fun n => n.c1 ≤ (g : Int)
    (nqIndexBuild q).netindex.length = 256
      ∧ ∀ g : Nat, g < 256 → ∃ p : Nat, (nqIndexBuild q).netindex[g]? = some (BitVec.ofNat 8 p) ∧ p ≤ 255
        ∧ ((∃ n ∈ q.net, n.c1 = (g : Int)) → p = (below g + min (upto g) 255) / 2)
        ∧ ((¬ ∃ n ∈ q.net, n.c1 = (g : Int)) → p = min (below g) 255)

/-- 41_quantizer.md R160: the palette read before NQ_IndexBuild is, entry by entry, the one read after it by colour number. -/
def Obligations.PaletteSurvivesIndexBuild : Prop :=
  ∀ q : Quant, q.net.length = 256 →
    (nqPalette (nqUnbias q).net).length = 768
    ∧ ∀ n ∈ (nqIndexBuild (nqUnbias q)).net,
      ((nqPalette (nqUnbias q).net).drop (3 * n.idx.toNat)).take 3
        = [BitVec.ofInt 8 n.c0, BitVec.ofInt 8 n.c1, BitVec.ofInt 8 n.c2]

/-- 41_quantizer.md R162: on 256 sorted entries with byte channels, the pruned lookup returns the colour number of an entry of
least L1 distance, wherever its start position stands; among several, the first in the order of the alternating scan, which goes
from the start position NETINDEX[green] up and from below it down in turns: `turn k` is the place of position k in that order. -/
def Obligations.NearestHasLeastDistance : Prop :=
  ∀ (q : Quant) (r g b : Byte), q.net.length = 256 →
    (∀ n ∈ q.net, 0 ≤ n.c0 ∧ n.c0 ≤ 255 ∧ 0 ≤ n.c1 ∧ n.c1 ≤ 255 ∧ 0 ≤ n.c2 ∧ n.c2 ≤ 255) →
    (q.net.Pairwise fun a b => a.c1 ≤ b.c1) →
    let start := (q.netindex.getD g.toNat 0).toNat
    let turn : Nat → Nat := fun k => if start ≤ k then 2 * (k - start) else 2 * (start - 1 - k) + 1
    ∃ (p : Nat) (n : Neuron), q.net[p]? = some n ∧ nqNearest q r g b = n.idx
      ∧ ∀ (k : Nat) (m : Neuron), q.net[k]? = some m →
        l1Dist n r g b ≤ l1Dist m r g b ∧ (l1Dist m r g b = l1Dist n r g b → turn p ≤ turn k)

/-! ## The compressor, 42_lzw.md -/

/-- R201, R208, R209, R51: between outputs the bit writer holds fewer than 8 bits, ACC holds nothing above them, the width is 9 to 12
and agrees with MAXCODE; LZW_Init leaves that and an empty FIFO; every output of a code that fits the width keeps that, and an EOI leaves ACC and the FIFO empty. -/
def Obligations.BitWriterStaysInBounds : Prop :=
  let ready : Lzw → Prop := fun l =>
    l.accBits ≤ 7 ∧ l.acc.toNat < 2 ^ l.accBits ∧ 9 ≤ l.nBits ∧ l.nBits ≤ 12 ∧ l.freeEnt ≤ 4096
      ∧ l.maxcode = (if l.nBits = 12 then 4096 else 2 ^ l.nBits - 1)
  (∀ l : Lzw, ready (lzwInit l) ∧ (lzwInit l).pkt = [])
  ∧ ∀ (limit code : Nat) (l : Lzw), 1 ≤ limit → limit ≤ 255 → ready l → l.pkt.length < limit → code < 2 ^ l.nBits →
    ready (lzwOutput limit code l).1 ∧ (lzwOutput limit code l).1.pkt.length < limit
      ∧ (code = 257 → (lzwOutput limit code l).1.accBits = 0 ∧ (lzwOutput limit code l).1.pkt = [])

/-- R212, R213: the data of a frame leaves in sub-blocks of exactly SUBBLOCK_MAX bytes, the last one 1 to SUBBLOCK_MAX, each after
its length byte; the data itself does not depend on SUBBLOCK_MAX (V5.3). -/
def Obligations.SubBlocksAreFullExceptLast : Prop :=
  ∀ (idx : List Byte) (l : Lzw), idx ≠ [] →
    ∃ data : List Byte, data ≠ [] ∧ ∀ limit : Nat, 1 ≤ limit → limit ≤ 255 →
      (lzwEncode limit idx l).2 = subBlocks limit data.length data

/-- R216, losslessness: a standard GIF LZW decoder reads from the data sub-blocks of a frame the very indices that were
compressed, for every nonempty IDX and every SUBBLOCK_MAX. The standard decoder is the reader `lzwDecodeFrame` of Safety, which is
the model's own (PRESUMED, log 13). -/
def Obligations.CompressionIsLossless : Prop :=
  ∀ (limit : Nat) (idx : List Byte) (l : Lzw), 1 ≤ limit → limit ≤ 255 → idx ≠ [] →
    lzwDecodeFrame (lzwEncode limit idx l).2 = some idx
end

