-- ==== Sys2Proof/Laws/Datapath.lean ====
section
/-! SUPPORT. What the pieces of the quantizer and of the compressor change, so that no later proof unfolds them: array
lengths, the fields a piece leaves alone, and one induction for the training loop. -/

namespace Sys2Proof.Machine

/-! ### Quantizer: arrays keep their length -/

@[simp] theorem nqInit_net_length (q : Quant) : (nqInit q).net.length = 256 := by
  simp only [nqInit, List.length_map, List.length_range, Config.netSize]
@[simp] theorem nqInit_freq_length (q : Quant) : (nqInit q).freq.length = 256 := by
  simp only [nqInit, List.length_replicate, Config.netSize]
@[simp] theorem nqInit_bias_length (q : Quant) : (nqInit q).bias.length = 256 := by
  simp only [nqInit, List.length_replicate, Config.netSize]

@[simp] theorem nqSetRadpower_length (q : Quant) : (nqSetRadpower q).radpower.length = 32 := by
  simp [nqSetRadpower, Config.initRad, Config.netSize]
@[simp] theorem nqSetRadpower_net (q : Quant) : (nqSetRadpower q).net = q.net := rfl
@[simp] theorem nqSetRadpower_freq (q : Quant) : (nqSetRadpower q).freq = q.freq := rfl
@[simp] theorem nqSetRadpower_bias (q : Quant) : (nqSetRadpower q).bias = q.bias := rfl

@[simp] theorem nqLearnSetup_net (len quality : Nat) (q : Quant) : (nqLearnSetup len quality q).net = q.net := rfl
@[simp] theorem nqLearnSetup_freq (len quality : Nat) (q : Quant) : (nqLearnSetup len quality q).freq = q.freq := rfl
@[simp] theorem nqLearnSetup_bias (len quality : Nat) (q : Quant) : (nqLearnSetup len quality q).bias = q.bias := rfl

@[simp] theorem nqContest_net (x : Colour) (q : Quant) : (nqContest x q).2.net = q.net := rfl
@[simp] theorem nqContest_alpha (x : Colour) (q : Quant) : (nqContest x q).2.alpha = q.alpha := rfl
@[simp] theorem nqContest_rad (x : Colour) (q : Quant) : (nqContest x q).2.rad = q.rad := rfl
@[simp] theorem nqContest_radpower (x : Colour) (q : Quant) : (nqContest x q).2.radpower = q.radpower := rfl
@[simp] theorem nqContest_freq_length (x : Colour) (q : Quant) : (nqContest x q).2.freq.length = q.freq.length := by
  simp [nqContest]
theorem nqContest_bias_length (x : Colour) (q : Quant) (h : q.freq.length = q.bias.length) :
    (nqContest x q).2.bias.length = q.bias.length := by
  simp [nqContest, h]

@[simp] theorem moveNeuron_idx (a scale : Int) (x : Colour) (n : Neuron) : (moveNeuron a scale x n).idx = n.idx := rfl
@[simp] theorem nqAlterSingle_net_length (alpha j : Nat) (x : Colour) (q : Quant) :
    (nqAlterSingle alpha j x q).net.length = q.net.length := by simp [nqAlterSingle]

@[simp] theorem alterNeighLoop_length (radpower : List Nat) (x : Colour) (lo hi : Int) (fuel : Nat) (up down : Int) (m : Nat)
    (net : List Neuron) : (alterNeighLoop radpower x lo hi fuel up down m net).length = net.length := by
  induction fuel generalizing up down m net with
  | zero => rfl
  | succ fuel ih =>
    simp only [alterNeighLoop]
    split
    · rw [ih]; split <;> split <;> simp
    · rfl

@[simp] theorem nqAlterNeigh_net_length (rad j : Nat) (x : Colour) (q : Quant) :
    (nqAlterNeigh rad j x q).net.length = q.net.length := by simp [nqAlterNeigh]

/-- The neighbour update touches NET alone. -/
theorem nqAlterNeigh_eq (rad j : Nat) (x : Colour) (q : Quant) :
    nqAlterNeigh rad j x q = { q with net := (nqAlterNeigh rad j x q).net } := rfl

@[simp] theorem nqDecay_net (q : Quant) : (nqDecay q).net = q.net := rfl

/-- A sample moves neurons; it adds and drops none. -/
@[simp] theorem nqTrainSample_net_length (x : Colour) (q : Quant) : (nqTrainSample x q).net.length = q.net.length := by
  simp only [nqTrainSample]
  split <;> simp

@[simp] theorem nqLearnStep_net_length (samples : List Byte) (len : Nat) (q : Quant) :
    (nqLearnStep samples len q).net.length = q.net.length := by
  simp only [nqLearnStep]
  split <;> simp

/-- Whatever one turn of the training loop keeps, the loop keeps. -/
theorem nqLearnLoop_keeps {samples : List Byte} {len : Nat} {P : Quant → Prop}
    (hstep : ∀ q, P q → P (nqLearnStep samples len q)) (n : Nat) {q : Quant} (h : P q) : P (nqLearnLoop samples len n q) := by
  induction n generalizing q with
  | zero => exact h
  | succ n ih => exact ih (hstep q h)

/-- Training keeps the number of neurons. -/
theorem nqLearnLoop_net_length (samples : List Byte) (len n : Nat) (q : Quant) :
    (nqLearnLoop samples len n q).net.length = q.net.length :=
  nqLearnLoop_keeps (P := fun r => r.net.length = q.net.length) (fun r hr => by rw [nqLearnStep_net_length, hr]) n rfl

@[simp] theorem nqUnbias_net_length (q : Quant) : (nqUnbias q).net.length = q.net.length := by simp [nqUnbias]

/-- Each entry gives three palette bytes. -/
theorem nqPalette_length (net : List Neuron) : (nqPalette net).length = 3 * net.length := by
  induction net with
  | nil => rfl
  | cons n net ih =>
    have h : nqPalette (n :: net) = neuronBytes n ++ nqPalette net := rfl
    rw [h, List.length_append, ih, List.length_cons]
    show 3 + 3 * net.length = _
    omega

/-! ### Compressor: what the bit writer leaves alone -/

/-- The bit writer's inner pieces change ACC, ACC_BITS and PKT alone. -/
theorem lzwDrain_eq (limit n : Nat) (l : Lzw) :
    (lzwDrain limit n l).1
      = { l with acc := (lzwDrain limit n l).1.acc, accBits := (lzwDrain limit n l).1.accBits, pkt := (lzwDrain limit n l).1.pkt } := by
  induction n generalizing l with
  | zero => rfl
  | succ n ih =>
    simp only [lzwDrain]
    rw [ih]
    simp only [lzwShiftOut, lzwByte, lzwFlushPacket]
    split_ifs <;> rfl

@[simp] theorem lzwFlushPacket_pkt (l : Lzw) : (lzwFlushPacket l).1.pkt = [] := by
  unfold lzwFlushPacket
  split
  · rfl
  · rename_i h; simpa using h

/-- Draining changes no width, no dictionary and no prefix. -/
@[simp] theorem lzwDrain_nBits (limit n : Nat) (l : Lzw) : (lzwDrain limit n l).1.nBits = l.nBits := by rw [lzwDrain_eq]
@[simp] theorem lzwDrain_dict (limit n : Nat) (l : Lzw) : (lzwDrain limit n l).1.dict = l.dict := by rw [lzwDrain_eq]
@[simp] theorem lzwDrain_freeEnt (limit n : Nat) (l : Lzw) : (lzwDrain limit n l).1.freeEnt = l.freeEnt := by rw [lzwDrain_eq]
@[simp] theorem lzwDrain_ent (limit n : Nat) (l : Lzw) : (lzwDrain limit n l).1.ent = l.ent := by rw [lzwDrain_eq]
@[simp] theorem lzwDrain_pos (limit n : Nat) (l : Lzw) : (lzwDrain limit n l).1.pos = l.pos := by rw [lzwDrain_eq]

@[simp] theorem lzwWidth_dict (l : Lzw) : (lzwWidth l).dict = l.dict := by unfold lzwWidth; split_ifs <;> rfl
@[simp] theorem lzwWidth_freeEnt (l : Lzw) : (lzwWidth l).freeEnt = l.freeEnt := by unfold lzwWidth; split_ifs <;> rfl

/-- An output writes no dictionary entry and moves no symbol. -/
@[simp] theorem lzwOutput_dict (limit code : Nat) (l : Lzw) : (lzwOutput limit code l).1.dict = l.dict := by
  have flush (l : Lzw) : (lzwFlushPacket l).1.dict = l.dict := by unfold lzwFlushPacket; split <;> rfl
  simp only [lzwOutput, lzwFinalFlush, lzwPack]
  split <;> simp [flush]
@[simp] theorem lzwOutput_freeEnt (limit code : Nat) (l : Lzw) : (lzwOutput limit code l).1.freeEnt = l.freeEnt := by
  have flush (l : Lzw) : (lzwFlushPacket l).1.freeEnt = l.freeEnt := by unfold lzwFlushPacket; split <;> rfl
  simp only [lzwOutput, lzwFinalFlush, lzwPack]
  split <;> simp [flush]

/-- The dictionary's answer is one of its entries. -/
theorem dictFind_mem {dict : List DictEntry} {pre code : Nat} {c : Byte} (h : dictFind dict pre c = some code) :
    ({ pre := pre, suffix := c, code := code } : DictEntry) ∈ dict := by
  induction dict with
  | nil => simp [dictFind] at h
  | cons e rest ih =>
    simp only [dictFind] at h
    split at h
    · rename_i hc; obtain ⟨rfl, rfl⟩ := hc; cases h; exact List.mem_cons_self
    · exact List.mem_cons_of_mem _ (ih h)

end Sys2Proof.Machine
end

