-- ==== Sys2Proof/Laws/State.lean ====
section
/-! SUPPORT. One lemma per field of State and per named update, so that no later proof unfolds a record update. -/

namespace Sys2Proof.Machine

variable (s : State)

/-! ### datapath and setDatapath -/
@[simp] theorem datapath_setDatapath (d : Datapath) : (s.setDatapath d).datapath = d := rfl
@[simp] theorem setDatapath_setDatapath (d e : Datapath) : (s.setDatapath d).setDatapath e = s.setDatapath e := rfl
@[simp] theorem datapath_draw (n : Nat) : State.datapath { s with dp := .draw n } = Config.drawDatapath n := rfl
@[simp] theorem setDatapath_prm (d : Datapath) : (s.setDatapath d).prm = s.prm := rfl
@[simp] theorem setDatapath_arg0 (d : Datapath) : (s.setDatapath d).arg0 = s.arg0 := rfl
@[simp] theorem setDatapath_arg1 (d : Datapath) : (s.setDatapath d).arg1 = s.arg1 := rfl
@[simp] theorem setDatapath_executing (d : Datapath) : (s.setDatapath d).executing = s.executing := rfl
@[simp] theorem setDatapath_result (d : Datapath) : (s.setDatapath d).result = s.result := rfl
@[simp] theorem setDatapath_lifecycle (d : Datapath) : (s.setDatapath d).lifecycle = s.lifecycle := rfl
@[simp] theorem setDatapath_geomSet (d : Datapath) : (s.setDatapath d).geomSet = s.geomSet := rfl
@[simp] theorem setDatapath_locked (d : Datapath) : (s.setDatapath d).locked = s.locked := rfl
@[simp] theorem setDatapath_bufInvalid (d : Datapath) : (s.setDatapath d).bufInvalid = s.bufInvalid := rfl
@[simp] theorem setDatapath_fatal (d : Datapath) : (s.setDatapath d).fatal = s.fatal := rfl
@[simp] theorem setDatapath_ovf (d : Datapath) : (s.setDatapath d).ovf = s.ovf := rfl
@[simp] theorem setDatapath_errcode (d : Datapath) : (s.setDatapath d).errcode = s.errcode := rfl
@[simp] theorem setDatapath_frameCount (d : Datapath) : (s.setDatapath d).frameCount = s.frameCount := rfl
@[simp] theorem setDatapath_cfg (d : Datapath) : (s.setDatapath d).cfg = s.cfg := rfl
@[simp] theorem setDatapath_comment (d : Datapath) : (s.setDatapath d).comment = s.comment := rfl
@[simp] theorem setDatapath_mem (d : Datapath) : (s.setDatapath d).mem = s.mem := rfl
@[simp] theorem setDatapath_out (d : Datapath) : (s.setDatapath d).out = s.out := rfl
@[simp] theorem setDatapath_dp (d : Datapath) : (s.setDatapath d).dp = .values d := rfl
@[simp] theorem setDatapath_epoch (d : Datapath) : (s.setDatapath d).epoch = s.epoch := rfl
@[simp] theorem setDatapath_draws (d : Datapath) : (s.setDatapath d).draws = s.draws := rfl
@[simp] theorem setDatapath_latencies (d : Datapath) : (s.setDatapath d).latencies = s.latencies := rfl
@[simp] theorem setDatapath_program (d : Datapath) : (s.setDatapath d).program = s.program := rfl
@[simp] theorem setDatapath_response (d : Datapath) : (s.setDatapath d).response = s.response := rfl
@[simp] theorem setDatapath_expectOk (d : Datapath) : (s.setDatapath d).expectOk = s.expectOk := rfl

/-! ### redrawDatapath -/
@[simp] theorem redrawDatapath_prm : (s.redrawDatapath).prm = s.prm := rfl
@[simp] theorem redrawDatapath_arg0 : (s.redrawDatapath).arg0 = s.arg0 := rfl
@[simp] theorem redrawDatapath_arg1 : (s.redrawDatapath).arg1 = s.arg1 := rfl
@[simp] theorem redrawDatapath_executing : (s.redrawDatapath).executing = s.executing := rfl
@[simp] theorem redrawDatapath_result : (s.redrawDatapath).result = s.result := rfl
@[simp] theorem redrawDatapath_lifecycle : (s.redrawDatapath).lifecycle = s.lifecycle := rfl
@[simp] theorem redrawDatapath_geomSet : (s.redrawDatapath).geomSet = s.geomSet := rfl
@[simp] theorem redrawDatapath_locked : (s.redrawDatapath).locked = s.locked := rfl
@[simp] theorem redrawDatapath_bufInvalid : (s.redrawDatapath).bufInvalid = s.bufInvalid := rfl
@[simp] theorem redrawDatapath_fatal : (s.redrawDatapath).fatal = s.fatal := rfl
@[simp] theorem redrawDatapath_ovf : (s.redrawDatapath).ovf = s.ovf := rfl
@[simp] theorem redrawDatapath_errcode : (s.redrawDatapath).errcode = s.errcode := rfl
@[simp] theorem redrawDatapath_frameCount : (s.redrawDatapath).frameCount = s.frameCount := rfl
@[simp] theorem redrawDatapath_cfg : (s.redrawDatapath).cfg = s.cfg := rfl
@[simp] theorem redrawDatapath_comment : (s.redrawDatapath).comment = s.comment := rfl
@[simp] theorem redrawDatapath_mem : (s.redrawDatapath).mem = s.mem := rfl
@[simp] theorem redrawDatapath_out : (s.redrawDatapath).out = s.out := rfl
@[simp] theorem redrawDatapath_dp : (s.redrawDatapath).dp = .draw s.draws := rfl
@[simp] theorem redrawDatapath_epoch : (s.redrawDatapath).epoch = s.epoch := rfl
@[simp] theorem redrawDatapath_draws : (s.redrawDatapath).draws = s.draws + 1 := rfl
@[simp] theorem redrawDatapath_latencies : (s.redrawDatapath).latencies = s.latencies := rfl
@[simp] theorem redrawDatapath_program : (s.redrawDatapath).program = s.program := rfl
@[simp] theorem redrawDatapath_response : (s.redrawDatapath).response = s.response := rfl
@[simp] theorem redrawDatapath_expectOk : (s.redrawDatapath).expectOk = s.expectOk := rfl

/-! ### complete -/
@[simp] theorem complete_prm : (s.complete).prm = s.prm := rfl
@[simp] theorem complete_arg0 : (s.complete).arg0 = s.arg0 := rfl
@[simp] theorem complete_arg1 : (s.complete).arg1 = s.arg1 := rfl
@[simp] theorem complete_executing : (s.complete).executing = none := rfl
@[simp] theorem complete_result : (s.complete).result = true := rfl
@[simp] theorem complete_lifecycle : (s.complete).lifecycle = s.lifecycle := rfl
@[simp] theorem complete_geomSet : (s.complete).geomSet = s.geomSet := rfl
@[simp] theorem complete_locked : (s.complete).locked = s.locked := rfl
@[simp] theorem complete_bufInvalid : (s.complete).bufInvalid = s.bufInvalid := rfl
@[simp] theorem complete_fatal : (s.complete).fatal = s.fatal := rfl
@[simp] theorem complete_ovf : (s.complete).ovf = s.ovf := rfl
@[simp] theorem complete_errcode : (s.complete).errcode = .none := rfl
@[simp] theorem complete_frameCount : (s.complete).frameCount = s.frameCount := rfl
@[simp] theorem complete_cfg : (s.complete).cfg = s.cfg := rfl
@[simp] theorem complete_comment : (s.complete).comment = s.comment := rfl
@[simp] theorem complete_mem : (s.complete).mem = s.mem := rfl
@[simp] theorem complete_out : (s.complete).out = s.out := rfl
@[simp] theorem complete_dp : (s.complete).dp = .draw s.draws := rfl
@[simp] theorem complete_epoch : (s.complete).epoch = s.epoch := rfl
@[simp] theorem complete_draws : (s.complete).draws = s.draws + 1 := rfl
@[simp] theorem complete_latencies : (s.complete).latencies = s.latencies := rfl
@[simp] theorem complete_program : (s.complete).program = s.program := rfl
@[simp] theorem complete_response : (s.complete).response = s.response := rfl
@[simp] theorem complete_expectOk : (s.complete).expectOk = s.expectOk := rfl

/-! ### raise -/
@[simp] theorem raise_prm (e : ErrorCode) : (s.raise e).prm = s.prm := rfl
@[simp] theorem raise_arg0 (e : ErrorCode) : (s.raise e).arg0 = s.arg0 := rfl
@[simp] theorem raise_arg1 (e : ErrorCode) : (s.raise e).arg1 = s.arg1 := rfl
@[simp] theorem raise_executing (e : ErrorCode) : (s.raise e).executing = none := rfl
@[simp] theorem raise_result (e : ErrorCode) : (s.raise e).result = false := rfl
@[simp] theorem raise_lifecycle (e : ErrorCode) : (s.raise e).lifecycle = s.lifecycle := rfl
@[simp] theorem raise_geomSet (e : ErrorCode) : (s.raise e).geomSet = s.geomSet := rfl
@[simp] theorem raise_locked (e : ErrorCode) : (s.raise e).locked = s.locked := rfl
@[simp] theorem raise_bufInvalid (e : ErrorCode) : (s.raise e).bufInvalid = s.bufInvalid := rfl
@[simp] theorem raise_fatal (e : ErrorCode) : (s.raise e).fatal = s.fatal := rfl
@[simp] theorem raise_ovf (e : ErrorCode) : (s.raise e).ovf = s.ovf := rfl
@[simp] theorem raise_errcode (e : ErrorCode) : (s.raise e).errcode = e := rfl
@[simp] theorem raise_frameCount (e : ErrorCode) : (s.raise e).frameCount = s.frameCount := rfl
@[simp] theorem raise_cfg (e : ErrorCode) : (s.raise e).cfg = s.cfg := rfl
@[simp] theorem raise_comment (e : ErrorCode) : (s.raise e).comment = s.comment := rfl
@[simp] theorem raise_mem (e : ErrorCode) : (s.raise e).mem = s.mem := rfl
@[simp] theorem raise_out (e : ErrorCode) : (s.raise e).out = s.out := rfl
@[simp] theorem raise_dp (e : ErrorCode) : (s.raise e).dp = .draw s.draws := rfl
@[simp] theorem raise_epoch (e : ErrorCode) : (s.raise e).epoch = s.epoch := rfl
@[simp] theorem raise_draws (e : ErrorCode) : (s.raise e).draws = s.draws + 1 := rfl
@[simp] theorem raise_latencies (e : ErrorCode) : (s.raise e).latencies = s.latencies := rfl
@[simp] theorem raise_program (e : ErrorCode) : (s.raise e).program = s.program := rfl
@[simp] theorem raise_response (e : ErrorCode) : (s.raise e).response = s.response := rfl
@[simp] theorem raise_expectOk (e : ErrorCode) : (s.raise e).expectOk = s.expectOk := rfl

/-! ### append -/
@[simp] theorem append_prm (b : Byte) : (s.append b).prm = s.prm := by unfold State.append; split <;> rfl
@[simp] theorem append_arg0 (b : Byte) : (s.append b).arg0 = s.arg0 := by unfold State.append; split <;> rfl
@[simp] theorem append_arg1 (b : Byte) : (s.append b).arg1 = s.arg1 := by unfold State.append; split <;> rfl
@[simp] theorem append_executing (b : Byte) : (s.append b).executing = s.executing := by unfold State.append; split <;> rfl
@[simp] theorem append_result (b : Byte) : (s.append b).result = s.result := by unfold State.append; split <;> rfl
@[simp] theorem append_lifecycle (b : Byte) : (s.append b).lifecycle = s.lifecycle := by unfold State.append; split <;> rfl
@[simp] theorem append_geomSet (b : Byte) : (s.append b).geomSet = s.geomSet := by unfold State.append; split <;> rfl
@[simp] theorem append_locked (b : Byte) : (s.append b).locked = s.locked := by unfold State.append; split <;> rfl
@[simp] theorem append_fatal (b : Byte) : (s.append b).fatal = s.fatal := by unfold State.append; split <;> rfl
@[simp] theorem append_errcode (b : Byte) : (s.append b).errcode = s.errcode := by unfold State.append; split <;> rfl
@[simp] theorem append_frameCount (b : Byte) : (s.append b).frameCount = s.frameCount := by unfold State.append; split <;> rfl
@[simp] theorem append_cfg (b : Byte) : (s.append b).cfg = s.cfg := by unfold State.append; split <;> rfl
@[simp] theorem append_comment (b : Byte) : (s.append b).comment = s.comment := by unfold State.append; split <;> rfl
@[simp] theorem append_mem (b : Byte) : (s.append b).mem = s.mem := by unfold State.append; split <;> rfl
@[simp] theorem append_dp (b : Byte) : (s.append b).dp = s.dp := by unfold State.append; split <;> rfl
@[simp] theorem append_epoch (b : Byte) : (s.append b).epoch = s.epoch := by unfold State.append; split <;> rfl
@[simp] theorem append_draws (b : Byte) : (s.append b).draws = s.draws := by unfold State.append; split <;> rfl
@[simp] theorem append_latencies (b : Byte) : (s.append b).latencies = s.latencies := by unfold State.append; split <;> rfl
@[simp] theorem append_program (b : Byte) : (s.append b).program = s.program := by unfold State.append; split <;> rfl
@[simp] theorem append_response (b : Byte) : (s.append b).response = s.response := by unfold State.append; split <;> rfl
@[simp] theorem append_expectOk (b : Byte) : (s.append b).expectOk = s.expectOk := by unfold State.append; split <;> rfl

/-! ### appendSeq -/
@[simp] theorem appendSeq_prm (bs : List Byte) : (s.appendSeq bs).prm = s.prm := by unfold State.appendSeq; dsimp only; split <;> rfl
@[simp] theorem appendSeq_arg0 (bs : List Byte) : (s.appendSeq bs).arg0 = s.arg0 := by unfold State.appendSeq; dsimp only; split <;> rfl
@[simp] theorem appendSeq_arg1 (bs : List Byte) : (s.appendSeq bs).arg1 = s.arg1 := by unfold State.appendSeq; dsimp only; split <;> rfl
@[simp] theorem appendSeq_executing (bs : List Byte) : (s.appendSeq bs).executing = s.executing := by unfold State.appendSeq; dsimp only; split <;> rfl
@[simp] theorem appendSeq_result (bs : List Byte) : (s.appendSeq bs).result = s.result := by unfold State.appendSeq; dsimp only; split <;> rfl
@[simp] theorem appendSeq_lifecycle (bs : List Byte) : (s.appendSeq bs).lifecycle = s.lifecycle := by unfold State.appendSeq; dsimp only; split <;> rfl
@[simp] theorem appendSeq_geomSet (bs : List Byte) : (s.appendSeq bs).geomSet = s.geomSet := by unfold State.appendSeq; dsimp only; split <;> rfl
@[simp] theorem appendSeq_locked (bs : List Byte) : (s.appendSeq bs).locked = s.locked := by unfold State.appendSeq; dsimp only; split <;> rfl
@[simp] theorem appendSeq_fatal (bs : List Byte) : (s.appendSeq bs).fatal = s.fatal := by unfold State.appendSeq; dsimp only; split <;> rfl
@[simp] theorem appendSeq_errcode (bs : List Byte) : (s.appendSeq bs).errcode = s.errcode := by unfold State.appendSeq; dsimp only; split <;> rfl
@[simp] theorem appendSeq_frameCount (bs : List Byte) : (s.appendSeq bs).frameCount = s.frameCount := by unfold State.appendSeq; dsimp only; split <;> rfl
@[simp] theorem appendSeq_cfg (bs : List Byte) : (s.appendSeq bs).cfg = s.cfg := by unfold State.appendSeq; dsimp only; split <;> rfl
@[simp] theorem appendSeq_comment (bs : List Byte) : (s.appendSeq bs).comment = s.comment := by unfold State.appendSeq; dsimp only; split <;> rfl
@[simp] theorem appendSeq_mem (bs : List Byte) : (s.appendSeq bs).mem = s.mem := by unfold State.appendSeq; dsimp only; split <;> rfl
@[simp] theorem appendSeq_dp (bs : List Byte) : (s.appendSeq bs).dp = s.dp := by unfold State.appendSeq; dsimp only; split <;> rfl
@[simp] theorem appendSeq_epoch (bs : List Byte) : (s.appendSeq bs).epoch = s.epoch := by unfold State.appendSeq; dsimp only; split <;> rfl
@[simp] theorem appendSeq_draws (bs : List Byte) : (s.appendSeq bs).draws = s.draws := by unfold State.appendSeq; dsimp only; split <;> rfl
@[simp] theorem appendSeq_latencies (bs : List Byte) : (s.appendSeq bs).latencies = s.latencies := by unfold State.appendSeq; dsimp only; split <;> rfl
@[simp] theorem appendSeq_program (bs : List Byte) : (s.appendSeq bs).program = s.program := by unfold State.appendSeq; dsimp only; split <;> rfl
@[simp] theorem appendSeq_response (bs : List Byte) : (s.appendSeq bs).response = s.response := by unfold State.appendSeq; dsimp only; split <;> rfl
@[simp] theorem appendSeq_expectOk (bs : List Byte) : (s.appendSeq bs).expectOk = s.expectOk := by unfold State.appendSeq; dsimp only; split <;> rfl

/-! ### sessionReset -/
@[simp] theorem sessionReset_prm : (s.sessionReset).prm = s.prm := rfl
@[simp] theorem sessionReset_arg0 : (s.sessionReset).arg0 = s.arg0 := rfl
@[simp] theorem sessionReset_arg1 : (s.sessionReset).arg1 = s.arg1 := rfl
@[simp] theorem sessionReset_executing : (s.sessionReset).executing = none := rfl
@[simp] theorem sessionReset_result : (s.sessionReset).result = true := rfl
@[simp] theorem sessionReset_lifecycle : (s.sessionReset).lifecycle = .unconfigured := rfl
@[simp] theorem sessionReset_geomSet : (s.sessionReset).geomSet = false := rfl
@[simp] theorem sessionReset_locked : (s.sessionReset).locked = false := rfl
@[simp] theorem sessionReset_bufInvalid : (s.sessionReset).bufInvalid = false := rfl
@[simp] theorem sessionReset_fatal : (s.sessionReset).fatal = false := rfl
@[simp] theorem sessionReset_ovf : (s.sessionReset).ovf = false := rfl
@[simp] theorem sessionReset_errcode : (s.sessionReset).errcode = .none := rfl
@[simp] theorem sessionReset_frameCount : (s.sessionReset).frameCount = 0 := rfl
@[simp] theorem sessionReset_cfg : (s.sessionReset).cfg = Settings.initial := rfl
@[simp] theorem sessionReset_comment : (s.sessionReset).comment = s.comment := rfl
@[simp] theorem sessionReset_mem : (s.sessionReset).mem = s.mem := rfl
@[simp] theorem sessionReset_out : (s.sessionReset).out = [] := rfl
@[simp] theorem sessionReset_dp : (s.sessionReset).dp = s.dp := rfl
@[simp] theorem sessionReset_epoch : (s.sessionReset).epoch = s.epoch := rfl
@[simp] theorem sessionReset_draws : (s.sessionReset).draws = s.draws := rfl
@[simp] theorem sessionReset_latencies : (s.sessionReset).latencies = s.latencies := rfl
@[simp] theorem sessionReset_program : (s.sessionReset).program = s.program := rfl
@[simp] theorem sessionReset_response : (s.sessionReset).response = s.response := rfl
@[simp] theorem sessionReset_expectOk : (s.sessionReset).expectOk = s.expectOk := rfl

/-! ### powerOn -/
@[simp] theorem powerOn_prm : (s.powerOn).prm = s.prm := rfl
@[simp] theorem powerOn_arg0 : (s.powerOn).arg0 = 0 := rfl
@[simp] theorem powerOn_arg1 : (s.powerOn).arg1 = 0 := rfl
@[simp] theorem powerOn_executing : (s.powerOn).executing = none := rfl
@[simp] theorem powerOn_result : (s.powerOn).result = true := rfl
@[simp] theorem powerOn_lifecycle : (s.powerOn).lifecycle = .unconfigured := rfl
@[simp] theorem powerOn_geomSet : (s.powerOn).geomSet = false := rfl
@[simp] theorem powerOn_locked : (s.powerOn).locked = false := rfl
@[simp] theorem powerOn_bufInvalid : (s.powerOn).bufInvalid = false := rfl
@[simp] theorem powerOn_fatal : (s.powerOn).fatal = false := rfl
@[simp] theorem powerOn_ovf : (s.powerOn).ovf = false := rfl
@[simp] theorem powerOn_errcode : (s.powerOn).errcode = .none := rfl
@[simp] theorem powerOn_frameCount : (s.powerOn).frameCount = 0 := rfl
@[simp] theorem powerOn_cfg : (s.powerOn).cfg = Settings.initial := rfl
@[simp] theorem powerOn_comment : (s.powerOn).comment = [] := rfl
@[simp] theorem powerOn_mem : (s.powerOn).mem = [] := rfl
@[simp] theorem powerOn_out : (s.powerOn).out = [] := rfl
@[simp] theorem powerOn_dp : (s.powerOn).dp = .draw s.draws := rfl
@[simp] theorem powerOn_epoch : (s.powerOn).epoch = s.epoch + 1 := rfl
@[simp] theorem powerOn_draws : (s.powerOn).draws = s.draws + 1 := rfl
@[simp] theorem powerOn_latencies : (s.powerOn).latencies = s.latencies := rfl
@[simp] theorem powerOn_program : (s.powerOn).program = s.program := rfl
@[simp] theorem powerOn_response : (s.powerOn).response = s.response := rfl
@[simp] theorem powerOn_expectOk : (s.powerOn).expectOk = s.expectOk := rfl

/-! ### frameComplete -/
@[simp] theorem frameComplete_prm : (s.frameComplete).prm = s.prm := rfl
@[simp] theorem frameComplete_arg0 : (s.frameComplete).arg0 = s.arg0 := rfl
@[simp] theorem frameComplete_arg1 : (s.frameComplete).arg1 = s.arg1 := rfl
@[simp] theorem frameComplete_executing : (s.frameComplete).executing = s.executing := rfl
@[simp] theorem frameComplete_result : (s.frameComplete).result = s.result := rfl
@[simp] theorem frameComplete_lifecycle : (s.frameComplete).lifecycle = s.lifecycle := rfl
@[simp] theorem frameComplete_geomSet : (s.frameComplete).geomSet = s.geomSet := rfl
@[simp] theorem frameComplete_locked : (s.frameComplete).locked = true := rfl
@[simp] theorem frameComplete_bufInvalid : (s.frameComplete).bufInvalid = s.bufInvalid := rfl
@[simp] theorem frameComplete_fatal : (s.frameComplete).fatal = s.fatal := rfl
@[simp] theorem frameComplete_ovf : (s.frameComplete).ovf = s.ovf := rfl
@[simp] theorem frameComplete_errcode : (s.frameComplete).errcode = s.errcode := rfl
@[simp] theorem frameComplete_frameCount : (s.frameComplete).frameCount = s.frameCount + 1 := rfl
@[simp] theorem frameComplete_cfg : (s.frameComplete).cfg = s.cfg := rfl
@[simp] theorem frameComplete_comment : (s.frameComplete).comment = s.comment := rfl
@[simp] theorem frameComplete_mem : (s.frameComplete).mem = s.mem := rfl
@[simp] theorem frameComplete_out : (s.frameComplete).out = s.out := rfl
@[simp] theorem frameComplete_dp : (s.frameComplete).dp = s.dp := rfl
@[simp] theorem frameComplete_epoch : (s.frameComplete).epoch = s.epoch := rfl
@[simp] theorem frameComplete_draws : (s.frameComplete).draws = s.draws := rfl
@[simp] theorem frameComplete_latencies : (s.frameComplete).latencies = s.latencies := rfl
@[simp] theorem frameComplete_program : (s.frameComplete).program = s.program := rfl
@[simp] theorem frameComplete_response : (s.frameComplete).response = s.response := rfl
@[simp] theorem frameComplete_expectOk : (s.frameComplete).expectOk = s.expectOk := rfl

/-! ### The datapath work of a frame changes `dp` alone -/

theorem sampleFrame_eq : s.sampleFrame = { s with dp := s.sampleFrame.dp } := by unfold State.sampleFrame; rfl
theorem quantize_eq : s.quantize = { s with dp := s.quantize.dp } := by unfold State.quantize; rfl
theorem indexFrame_eq : s.indexFrame = { s with dp := s.indexFrame.dp } := by unfold State.indexFrame; rfl
theorem transparentIndex_eq : s.transparentIndex = { s with dp := s.transparentIndex.dp } := by
  unfold State.transparentIndex; split <;> rfl

/-- A frame's datapath work is a change of `dp` alone. -/
theorem frameDatapath_eq : s.frameDatapath = { s with dp := s.frameDatapath.dp } := by
  unfold State.frameDatapath
  rw [transparentIndex_eq, indexFrame_eq, quantize_eq, sampleFrame_eq]

@[simp] theorem frameDatapath_prm : (s.frameDatapath).prm = s.prm := by rw [frameDatapath_eq]
@[simp] theorem frameDatapath_arg0 : (s.frameDatapath).arg0 = s.arg0 := by rw [frameDatapath_eq]
@[simp] theorem frameDatapath_arg1 : (s.frameDatapath).arg1 = s.arg1 := by rw [frameDatapath_eq]
@[simp] theorem frameDatapath_executing : (s.frameDatapath).executing = s.executing := by rw [frameDatapath_eq]
@[simp] theorem frameDatapath_result : (s.frameDatapath).result = s.result := by rw [frameDatapath_eq]
@[simp] theorem frameDatapath_lifecycle : (s.frameDatapath).lifecycle = s.lifecycle := by rw [frameDatapath_eq]
@[simp] theorem frameDatapath_geomSet : (s.frameDatapath).geomSet = s.geomSet := by rw [frameDatapath_eq]
@[simp] theorem frameDatapath_locked : (s.frameDatapath).locked = s.locked := by rw [frameDatapath_eq]
@[simp] theorem frameDatapath_bufInvalid : (s.frameDatapath).bufInvalid = s.bufInvalid := by rw [frameDatapath_eq]
@[simp] theorem frameDatapath_fatal : (s.frameDatapath).fatal = s.fatal := by rw [frameDatapath_eq]
@[simp] theorem frameDatapath_ovf : (s.frameDatapath).ovf = s.ovf := by rw [frameDatapath_eq]
@[simp] theorem frameDatapath_errcode : (s.frameDatapath).errcode = s.errcode := by rw [frameDatapath_eq]
@[simp] theorem frameDatapath_frameCount : (s.frameDatapath).frameCount = s.frameCount := by rw [frameDatapath_eq]
@[simp] theorem frameDatapath_cfg : (s.frameDatapath).cfg = s.cfg := by rw [frameDatapath_eq]
@[simp] theorem frameDatapath_comment : (s.frameDatapath).comment = s.comment := by rw [frameDatapath_eq]
@[simp] theorem frameDatapath_mem : (s.frameDatapath).mem = s.mem := by rw [frameDatapath_eq]
@[simp] theorem frameDatapath_out : (s.frameDatapath).out = s.out := by rw [frameDatapath_eq]
@[simp] theorem frameDatapath_epoch : (s.frameDatapath).epoch = s.epoch := by rw [frameDatapath_eq]
@[simp] theorem frameDatapath_draws : (s.frameDatapath).draws = s.draws := by rw [frameDatapath_eq]
@[simp] theorem frameDatapath_latencies : (s.frameDatapath).latencies = s.latencies := by rw [frameDatapath_eq]
@[simp] theorem frameDatapath_program : (s.frameDatapath).program = s.program := by rw [frameDatapath_eq]
@[simp] theorem frameDatapath_response : (s.frameDatapath).response = s.response := by rw [frameDatapath_eq]
@[simp] theorem frameDatapath_expectOk : (s.frameDatapath).expectOk = s.expectOk := by rw [frameDatapath_eq]

/-! ### imageData -/
@[simp] theorem imageData_prm : (s.imageData).prm = s.prm := by simp [State.imageData]
@[simp] theorem imageData_arg0 : (s.imageData).arg0 = s.arg0 := by simp [State.imageData]
@[simp] theorem imageData_arg1 : (s.imageData).arg1 = s.arg1 := by simp [State.imageData]
@[simp] theorem imageData_executing : (s.imageData).executing = s.executing := by simp [State.imageData]
@[simp] theorem imageData_result : (s.imageData).result = s.result := by simp [State.imageData]
@[simp] theorem imageData_lifecycle : (s.imageData).lifecycle = s.lifecycle := by simp [State.imageData]
@[simp] theorem imageData_geomSet : (s.imageData).geomSet = s.geomSet := by simp [State.imageData]
@[simp] theorem imageData_locked : (s.imageData).locked = s.locked := by simp [State.imageData]
@[simp] theorem imageData_fatal : (s.imageData).fatal = s.fatal := by simp [State.imageData]
@[simp] theorem imageData_errcode : (s.imageData).errcode = s.errcode := by simp [State.imageData]
@[simp] theorem imageData_frameCount : (s.imageData).frameCount = s.frameCount := by simp [State.imageData]
@[simp] theorem imageData_cfg : (s.imageData).cfg = s.cfg := by simp [State.imageData]
@[simp] theorem imageData_comment : (s.imageData).comment = s.comment := by simp [State.imageData]
@[simp] theorem imageData_mem : (s.imageData).mem = s.mem := by simp [State.imageData]
@[simp] theorem imageData_epoch : (s.imageData).epoch = s.epoch := by simp [State.imageData]
@[simp] theorem imageData_draws : (s.imageData).draws = s.draws := by simp [State.imageData]
@[simp] theorem imageData_latencies : (s.imageData).latencies = s.latencies := by simp [State.imageData]
@[simp] theorem imageData_program : (s.imageData).program = s.program := by simp [State.imageData]
@[simp] theorem imageData_response : (s.imageData).response = s.response := by simp [State.imageData]
@[simp] theorem imageData_expectOk : (s.imageData).expectOk = s.expectOk := by simp [State.imageData]

/-! ### startCommand -/
@[simp] theorem startCommand_prm (w : Word) : (s.startCommand w).prm = s.prm := rfl
@[simp] theorem startCommand_arg0 (w : Word) : (s.startCommand w).arg0 = s.arg0 := rfl
@[simp] theorem startCommand_arg1 (w : Word) : (s.startCommand w).arg1 = s.arg1 := rfl
@[simp] theorem startCommand_executing (w : Word) : (s.startCommand w).executing = some { word := w, remaining := s.latencies.headD 0 } := rfl
@[simp] theorem startCommand_result (w : Word) : (s.startCommand w).result = s.result := rfl
@[simp] theorem startCommand_lifecycle (w : Word) : (s.startCommand w).lifecycle = s.lifecycle := rfl
@[simp] theorem startCommand_geomSet (w : Word) : (s.startCommand w).geomSet = s.geomSet := rfl
@[simp] theorem startCommand_locked (w : Word) : (s.startCommand w).locked = s.locked := rfl
@[simp] theorem startCommand_bufInvalid (w : Word) : (s.startCommand w).bufInvalid = s.bufInvalid := rfl
@[simp] theorem startCommand_fatal (w : Word) : (s.startCommand w).fatal = s.fatal := rfl
@[simp] theorem startCommand_ovf (w : Word) : (s.startCommand w).ovf = s.ovf := rfl
@[simp] theorem startCommand_errcode (w : Word) : (s.startCommand w).errcode = s.errcode := rfl
@[simp] theorem startCommand_frameCount (w : Word) : (s.startCommand w).frameCount = s.frameCount := rfl
@[simp] theorem startCommand_cfg (w : Word) : (s.startCommand w).cfg = s.cfg := rfl
@[simp] theorem startCommand_comment (w : Word) : (s.startCommand w).comment = s.comment := rfl
@[simp] theorem startCommand_mem (w : Word) : (s.startCommand w).mem = s.mem := rfl
@[simp] theorem startCommand_out (w : Word) : (s.startCommand w).out = s.out := rfl
@[simp] theorem startCommand_dp (w : Word) : (s.startCommand w).dp = s.dp := rfl
@[simp] theorem startCommand_epoch (w : Word) : (s.startCommand w).epoch = s.epoch := rfl
@[simp] theorem startCommand_draws (w : Word) : (s.startCommand w).draws = s.draws := rfl
@[simp] theorem startCommand_latencies (w : Word) : (s.startCommand w).latencies = s.latencies.tail := rfl
@[simp] theorem startCommand_program (w : Word) : (s.startCommand w).program = s.program := rfl
@[simp] theorem startCommand_response (w : Word) : (s.startCommand w).response = s.response := rfl
@[simp] theorem startCommand_expectOk (w : Word) : (s.startCommand w).expectOk = s.expectOk := rfl

/-! ### latch -/
@[simp] theorem latch_prm (w : Word) : (s.latch w).prm = s.prm := rfl
@[simp] theorem latch_arg0 (w : Word) : (s.latch w).arg0 = s.arg0 := rfl
@[simp] theorem latch_arg1 (w : Word) : (s.latch w).arg1 = s.arg1 := rfl
@[simp] theorem latch_executing (w : Word) : (s.latch w).executing = some { word := w, remaining := 0 } := rfl
@[simp] theorem latch_result (w : Word) : (s.latch w).result = s.result := rfl
@[simp] theorem latch_lifecycle (w : Word) : (s.latch w).lifecycle = s.lifecycle := rfl
@[simp] theorem latch_geomSet (w : Word) : (s.latch w).geomSet = s.geomSet := rfl
@[simp] theorem latch_locked (w : Word) : (s.latch w).locked = s.locked := rfl
@[simp] theorem latch_bufInvalid (w : Word) : (s.latch w).bufInvalid = s.bufInvalid := rfl
@[simp] theorem latch_fatal (w : Word) : (s.latch w).fatal = s.fatal := rfl
@[simp] theorem latch_ovf (w : Word) : (s.latch w).ovf = s.ovf := rfl
@[simp] theorem latch_errcode (w : Word) : (s.latch w).errcode = s.errcode := rfl
@[simp] theorem latch_frameCount (w : Word) : (s.latch w).frameCount = s.frameCount := rfl
@[simp] theorem latch_cfg (w : Word) : (s.latch w).cfg = s.cfg := rfl
@[simp] theorem latch_comment (w : Word) : (s.latch w).comment = s.comment := rfl
@[simp] theorem latch_mem (w : Word) : (s.latch w).mem = s.mem := rfl
@[simp] theorem latch_out (w : Word) : (s.latch w).out = s.out := rfl
@[simp] theorem latch_dp (w : Word) : (s.latch w).dp = s.dp := rfl
@[simp] theorem latch_epoch (w : Word) : (s.latch w).epoch = s.epoch := rfl
@[simp] theorem latch_draws (w : Word) : (s.latch w).draws = s.draws := rfl
@[simp] theorem latch_latencies (w : Word) : (s.latch w).latencies = s.latencies := rfl
@[simp] theorem latch_program (w : Word) : (s.latch w).program = s.program := rfl
@[simp] theorem latch_response (w : Word) : (s.latch w).response = s.response := rfl
@[simp] theorem latch_expectOk (w : Word) : (s.latch w).expectOk = s.expectOk := rfl

/-! ### The end of a command as one record update -/

/-- `complete` writes the report, lets BUSY fall and draws the datapath state anew; a state that agrees with that is the completed
state. -/
theorem complete_def : s.complete = { s with
    errcode := .none, result := true, executing := none, dp := .draw s.draws, draws := s.draws + 1 } := rfl

/-- `raise` writes the report, lets BUSY fall and draws the datapath state anew. -/
theorem raise_def (e : ErrorCode) : s.raise e = { s with
    errcode := e, result := false, executing := none, dp := .draw s.draws, draws := s.draws + 1 } := rfl

/-- What a command left in the datapath state does not outlive its end. -/
@[simp] theorem complete_with_dp (d : DatapathContents) : State.complete { s with dp := d } = s.complete := rfl

/-- The same where it raises. -/
@[simp] theorem raise_with_dp (d : DatapathContents) (e : ErrorCode) : State.raise { s with dp := d } e = s.raise e := rfl

end Sys2Proof.Machine
end

