-- ==== Sys2Proof/Laws/Ops.lean ====
section
/-! SUPPORT. What each shared operation can do, said once: Append and AppendSeq, CheckSettable and the common shape of the
setting commands, the conditions under which each command's arm is taken, and the report. -/

namespace Sys2Proof.Machine

variable (s : State)

/-! ### Append -/

/-- A byte that fits is stored, and nothing else changes. -/
theorem append_stored (b : Byte) (h : s.out.length < s.prm.outCap) : s.append b = { s with out := s.out ++ [b] } := by
  simp [State.append, h]

/-- A byte that does not fit is dropped, and the two bits say so. -/
theorem append_dropped (b : Byte) (h : s.prm.outCap ≤ s.out.length) :
    s.append b = { s with ovf := true, bufInvalid := true } := by
  simp [State.append, Nat.not_lt.mpr h]

/-- Bytes that fit are all stored. -/
theorem appendSeq_stored (bs : List Byte) (h : bs.length ≤ s.prm.outCap - s.out.length) :
    s.appendSeq bs = { s with out := s.out ++ bs } := by
  simp [State.appendSeq, h]

/-- Otherwise the first ones that fit are stored, and the two bits are set. -/
theorem appendSeq_dropped (bs : List Byte) (h : s.prm.outCap - s.out.length < bs.length) :
    s.appendSeq bs
      = { s with out := s.out ++ bs.take (s.prm.outCap - s.out.length), ovf := true, bufInvalid := true } := by
  simp [State.appendSeq, Nat.not_le.mpr h]

/-- Whatever fits, what was in OUT stays its beginning, and the bytes added are a beginning of the sequence. -/
theorem appendSeq_out (bs : List Byte) : ∃ added, added <+: bs ∧ (s.appendSeq bs).out = s.out ++ added := by
  rcases Nat.lt_or_ge (s.prm.outCap - s.out.length) bs.length with h | h
  · exact ⟨_, List.take_prefix _ _, by rw [appendSeq_dropped s bs h]⟩
  · exact ⟨bs, List.prefix_refl _, by rw [appendSeq_stored s bs h]⟩

/-- OUT stays within its capacity. -/
theorem appendSeq_fits (bs : List Byte) (h : s.out.length ≤ s.prm.outCap) : (s.appendSeq bs).out.length ≤ s.prm.outCap := by
  rcases Nat.lt_or_ge (s.prm.outCap - s.out.length) bs.length with h' | h'
  · rw [appendSeq_dropped s bs h']; simp; omega
  · rw [appendSeq_stored s bs h']; simp; omega

/-- The sticky bits are never cleared, and OVF is raised only together with BUF_INVALID. -/
theorem appendSeq_bits (bs : List Byte) :
    ((s.appendSeq bs).ovf = s.ovf ∧ (s.appendSeq bs).bufInvalid = s.bufInvalid)
      ∨ ((s.appendSeq bs).ovf = true ∧ (s.appendSeq bs).bufInvalid = true) := by
  rcases Nat.lt_or_ge (s.prm.outCap - s.out.length) bs.length with h | h
  · rw [appendSeq_dropped s bs h]; exact .inr ⟨rfl, rfl⟩
  · rw [appendSeq_stored s bs h]; exact .inl ⟨rfl, rfl⟩

/-- Two sequences one after the other are one sequence. -/
theorem appendSeq_appendSeq (bs cs : List Byte) (h : s.out.length ≤ s.prm.outCap) :
    (s.appendSeq bs).appendSeq cs = s.appendSeq (bs ++ cs) := by
  rcases Nat.lt_or_ge (s.prm.outCap - s.out.length) bs.length with h1 | h1
  · rw [appendSeq_dropped s bs h1, appendSeq_dropped s (bs ++ cs) (by simp; omega)]
    have hfull : s.prm.outCap - (s.out ++ bs.take (s.prm.outCap - s.out.length)).length = 0 := by simp; omega
    rw [List.take_append_of_le_length (by omega)]
    cases cs with
    | nil => simp [State.appendSeq]
    | cons c cs =>
      rw [appendSeq_dropped _ _ (by simp only [hfull]; simp)]
      simp only [hfull]
      simp
  · rw [appendSeq_stored s bs h1]
    rcases Nat.lt_or_ge (s.prm.outCap - s.out.length) (bs ++ cs).length with h2 | h2
    · rw [appendSeq_dropped s (bs ++ cs) h2, appendSeq_dropped _ cs (by simp at h2 ⊢; omega)]
      simp only [List.length_append, List.take_append, List.append_assoc, Nat.sub_add_eq]
      rw [List.take_of_length_le (l := bs) (by omega)]
    · rw [appendSeq_stored s (bs ++ cs) h2, appendSeq_stored _ cs (by simp at h2 ⊢; omega)]
      simp

/-! ### CheckSettable and the setting commands -/

/-- When a setting command may go on to its operands. -/
theorem checkSettable_eq_none : s.checkSettable = none ↔ s.fatal = false ∧ s.locked = false ∧ s.lifecycle ≠ .finished := by
  unfold State.checkSettable
  cases s.fatal <;> cases s.locked <;> cases s.lifecycle <;> simp

/-- FATAL is looked at first. -/
theorem checkSettable_fatal (h : s.fatal = true) : s.checkSettable = some .invalidState := by simp [State.checkSettable, h]

/-- Then the lock and the end of the session. -/
theorem checkSettable_frozen (hf : s.fatal = false) (h : s.locked = true ∨ s.lifecycle = .finished) :
    s.checkSettable = some .configurationError := by
  simp [State.checkSettable, hf, h]

/-- Everything a setting command can do: complete with its registers written, or report InvalidState or ConfigurationError and
change nothing else. -/
theorem applySetting_cases {inRange : Bool} {write : State → State} {t : State}
    (h : s.applySetting inRange write = .next t) :
    (s.fatal = false ∧ s.locked = false ∧ s.lifecycle ≠ .finished ∧ inRange = true ∧ t = (write s).complete)
      ∨ (s.fatal = true ∧ t = s.raise .invalidState)
      ∨ (s.fatal = false ∧ t = s.raise .configurationError) := by
  unfold State.applySetting at h
  cases hf : s.fatal with
  | true => rw [checkSettable_fatal s hf] at h; cases h; exact .inr (.inl ⟨rfl, rfl⟩)
  | false =>
    by_cases hx : s.locked = true ∨ s.lifecycle = .finished
    · rw [checkSettable_frozen s hf hx] at h; cases h; exact .inr (.inr ⟨rfl, rfl⟩)
    · have hs : s.checkSettable = none := (checkSettable_eq_none s).mpr
        ⟨hf, by simpa using fun hl => hx (.inl hl), fun hl => hx (.inr hl)⟩
      rw [hs] at h
      cases inRange with
      | true =>
        simp only [if_true] at h
        cases h
        exact .inl ⟨rfl, ((checkSettable_eq_none s).mp hs).2.1, ((checkSettable_eq_none s).mp hs).2.2, rfl, rfl⟩
      | false =>
        simp only [Bool.false_eq_true, if_false] at h
        cases h
        exact .inr (.inr ⟨rfl, rfl⟩)

/-- Operands in range, in a settable state: the registers are written and the command completes. -/
theorem applySetting_completes {inRange : Bool} (write : State → State) (hs : s.checkSettable = none) (hr : inRange = true) :
    s.applySetting inRange write = .next (write s).complete := by
  simp [State.applySetting, hs, hr]

/-- Operands out of range, in a settable state. -/
theorem applySetting_outOfRange {inRange : Bool} (write : State → State) (hs : s.checkSettable = none)
    (hr : inRange = false) : s.applySetting inRange write = .next (s.raise .configurationError) := by
  simp [State.applySetting, hs, hr]

/-- A check that fails reports its error whatever the operands are. -/
theorem applySetting_refused {e : ErrorCode} (inRange : Bool) (write : State → State) (hs : s.checkSettable = some e) :
    s.applySetting inRange write = .next (s.raise e) := by
  simp [State.applySetting, hs]

/-! ### The session commands -/

/-- Everything START can do. -/
theorem execStart_cases {t : State} (h : execStart s = .next t) :
    (s.fatal = false ∧ s.lifecycle = .unconfigured
        ∧ t = State.complete { s.appendSeq gifSignature with lifecycle := .started })
      ∨ (s.fatal = false ∧ s.lifecycle = .started ∧ t = s.complete)
      ∨ ((s.fatal = true ∨ s.lifecycle = .finished) ∧ t = s.raise .invalidState) := by
  unfold execStart at h
  split at h
  · rename_i hf; cases h; exact .inr (.inr ⟨.inl hf, rfl⟩)
  · rename_i hf
    have hf : s.fatal = false := by simpa using hf
    split at h <;> rename_i hl <;> cases h
    · exact .inl ⟨hf, hl, rfl⟩
    · exact .inr (.inl ⟨hf, hl, rfl⟩)
    · exact .inr (.inr ⟨.inr hl, rfl⟩)

/-- Everything FINISH can do. -/
theorem execFinish_cases {t : State} (h : execFinish s = .next t) :
    (s.fatal = false ∧ s.lifecycle = .started
        ∧ t = State.complete { s.append gifTrailer with lifecycle := .finished })
      ∨ ((s.fatal = true ∨ s.lifecycle ≠ .started) ∧ t = s.raise .invalidState) := by
  unfold execFinish at h
  split at h
  · rename_i hc; cases h; exact .inr ⟨hc, rfl⟩
  · rename_i hc; cases h; rw [not_or] at hc; exact .inl ⟨by simpa using hc.1, by simpa using hc.2, rfl⟩

/-- Everything ADD_FRAME can do. -/
theorem execAddFrame_cases {t : State} (h : execAddFrame s = .next t) :
    ((s.fatal = true ∨ s.lifecycle ≠ .started) ∧ t = s.raise .invalidState)
      ∨ (s.fatal = false ∧ s.lifecycle = .started ∧ s.arg1U ≠ 0 ∧ t = s.raise .invalidInputType)
      ∨ (s.fatal = false ∧ s.lifecycle = .started ∧ s.arg1U = 0 ∧ s.geomSet = false ∧ t = s.raise .configurationError)
      ∨ (s.fatal = false ∧ s.lifecycle = .started ∧ s.arg1U = 0 ∧ s.geomSet = true ∧ s.arg0U ≠ 4 * s.cfg.pixels
          ∧ t = s.dimensionMismatchAction.raise .dimensionMismatch)
      ∨ (s.fatal = false ∧ s.lifecycle = .started ∧ s.arg1U = 0 ∧ s.geomSet = true ∧ s.arg0U = 4 * s.cfg.pixels
          ∧ t = s.framePipeline.frameComplete.complete) := by
  unfold execAddFrame at h
  split at h
  · rename_i hc; cases h; exact .inl ⟨hc, rfl⟩
  · rename_i hc
    rw [not_or] at hc
    have hf : s.fatal = false := by simpa using hc.1
    have hl : s.lifecycle = .started := by simpa using hc.2
    split at h
    · rename_i hm; cases h; exact .inr (.inl ⟨hf, hl, hm, rfl⟩)
    · rename_i hm
      have hm : s.arg1U = 0 := by simpa using hm
      split at h
      · rename_i hg; cases h; exact .inr (.inr (.inl ⟨hf, hl, hm, by simpa using hg, rfl⟩))
      · rename_i hg
        have hg : s.geomSet = true := by simpa using hg
        split at h
        · rename_i hd; cases h; exact .inr (.inr (.inr (.inl ⟨hf, hl, hm, hg, hd, rfl⟩)))
        · rename_i hd; cases h; exact .inr (.inr (.inr (.inr ⟨hf, hl, hm, hg, by simpa using hd, rfl⟩)))

/-- The frame's bytes are appended to OUT as one sequence: the blocks before the image data, then the Image Data block. -/
theorem framePipeline_eq : s.framePipeline
    = State.imageData (s.frameDatapath.appendSeq (s.frameDatapath.frameHeader (!s.locked))) := rfl

/-! ### Reset -/

/-- SessionReset leaves nothing of the session before it. -/
theorem sessionReset_sessionReset : s.sessionReset.sessionReset = s.sessionReset := rfl

/-- A second power-on reset finds the first one's registers; only the counts that name the draws move on, and the
datapath state is drawn again. -/
theorem powerOn_powerOn : s.powerOn.powerOn
    = { s.powerOn with epoch := s.epoch + 2, dp := .draw (s.draws + 1), draws := s.draws + 2 } := rfl

end Sys2Proof.Machine
end

