-- ==== Sys2Proof/Laws/Exec.lean ====
section
/-! SUPPORT. Each arm of `exec` by its meaning, and the words of Safety by the operations of the machine. -/

namespace Sys2Proof.Machine

variable (s : State)

@[simp] theorem exec_nop : exec .nop s = .next s.complete := rfl
@[simp] theorem exec_configure : exec .configure s = execConfigure s := rfl
@[simp] theorem exec_setQuality : exec .setQuality s = execSetQuality s := rfl
@[simp] theorem exec_setDelay : exec .setDelay s = execSetDelay s := rfl
@[simp] theorem exec_setFrameRate : exec .setFrameRate s = execSetFrameRate s := rfl
@[simp] theorem exec_setRepeat : exec .setRepeat s = execSetRepeat s := rfl
@[simp] theorem exec_setDisposal : exec .setDisposal s = execSetDisposal s := rfl
@[simp] theorem exec_setTransparent : exec .setTransparent s = execSetTransparent s := rfl
@[simp] theorem exec_setComment : exec .setComment s = execSetComment s := rfl
@[simp] theorem exec_start : exec .start s = execStart s := rfl
@[simp] theorem exec_addFrame : exec .addFrame s = execAddFrame s := rfl
@[simp] theorem exec_finish : exec .finish s = execFinish s := rfl
@[simp] theorem exec_resetSession : exec .resetSession s = .next s.sessionReset.complete := rfl

/-- `completed` is what `complete` leaves. -/
theorem completed_eq : completed s = s.complete := rfl

/-- `raised` is what `raise` leaves. -/
theorem raised_eq (e : ErrorCode) : raised e s = s.raise e := rfl

/-- A settable state passes CheckSettable. -/
theorem checkSettable_of_settable (h : Settable s) : s.checkSettable = none := (checkSettable_eq_none s).mpr h

/-- The s32 reading of a register is the two's complement reading of its 32 bits. -/
theorem s32_eq_toInt (v : Word) : s32 v = v.toInt := by
  unfold s32; rw [BitVec.toInt_eq_msb_cond]; simp [BitVec.msb_eq_getLsbD_last]

end Sys2Proof.Machine
end

