-- ==== Sys2Proof/Laws/Memory.lean ====
section
/-! SUPPORT. What the sparse memory does: a read after a write, the canonical form, which addresses are listed. -/

namespace Sys2Proof.Machine

/-! ### One byte -/

/-- The byte just written reads back. -/
@[simp] theorem Memory.lookup_store_self (m : Memory) (a : Nat) (v : Byte) : (m.store a v).lookup a = some v := by
  induction m with
  | nil => simp [Memory.store, Memory.lookup]
  | cons c m ih =>
    obtain ⟨k, w⟩ := c
    simp only [Memory.store]
    split
    · simp [Memory.lookup]
    · split
      · simp [Memory.lookup]
      · rename_i h; simp [Memory.lookup, Ne.symm h, ih]

/-- Every other byte stays. -/
theorem Memory.lookup_store_ne (m : Memory) {a b : Nat} (v : Byte) (h : b ≠ a) : (m.store a v).lookup b = m.lookup b := by
  induction m with
  | nil => simp [Memory.store, Memory.lookup, Ne.symm h]
  | cons c m ih =>
    obtain ⟨k, w⟩ := c
    simp only [Memory.store]
    split
    · simp [Memory.lookup, Ne.symm h]
    · split
      · rename_i hk; subst hk; simp [Memory.lookup, Ne.symm h]
      · simp [Memory.lookup, ih]

/-- What a store lists: its own address, and what was listed. -/
theorem Memory.mem_store {m : Memory} {a : Nat} {v : Byte} {c : Host.Cell} (h : c ∈ m.store a v) : c = (a, v) ∨ c ∈ m := by
  induction m with
  | nil => simpa [Memory.store] using h
  | cons d m ih =>
    obtain ⟨k, w⟩ := d
    simp only [Memory.store] at h
    split at h
    · simpa using h
    · split at h
      · simp only [List.mem_cons] at h ⊢; tauto
      · simp only [List.mem_cons] at h ⊢; have := ih; tauto

/-- A store keeps the canonical form. -/
theorem Memory.store_wf {m : Memory} (h : m.wf) (a : Nat) (v : Byte) : (m.store a v).wf := by
  induction m with
  | nil => simp [Memory.store, Memory.wf]
  | cons d m ih =>
    obtain ⟨k, w⟩ := d
    simp only [Memory.wf, List.pairwise_cons] at h
    simp only [Memory.store]
    split
    · rename_i hlt
      simp only [Memory.wf, List.pairwise_cons, List.mem_cons]
      refine ⟨?_, h.1, h.2⟩
      rintro c (rfl | hc)
      · exact hlt
      · exact Nat.lt_trans hlt (h.1 c hc)
    · split
      · rename_i hk; subst hk
        simp only [Memory.wf, List.pairwise_cons]
        exact ⟨h.1, h.2⟩
      · simp only [Memory.wf, List.pairwise_cons]
        refine ⟨?_, ih h.2⟩
        intro c hc
        rcases Memory.mem_store hc with rfl | hc
        · show k < a; omega
        · exact h.1 c hc

/-- A byte is listed exactly when the lookup finds it. -/
theorem Memory.isSome_lookup (m : Memory) (a : Nat) : (m.lookup a).isSome = true ↔ ∃ v, (a, v) ∈ m := by
  induction m with
  | nil => simp [Memory.lookup]
  | cons d m ih =>
    obtain ⟨k, w⟩ := d
    simp only [Memory.lookup]
    split
    · rename_i hk; subst hk; simp
    · rename_i hk
      simp only [ih, List.mem_cons, Prod.mk.injEq]
      constructor
      · rintro ⟨v, hv⟩; exact ⟨v, .inr hv⟩
      · rintro ⟨v, ⟨rfl, -⟩ | hv⟩
        · exact absurd rfl hk
        · exact ⟨v, hv⟩

/-! ### Consecutive bytes -/

/-- Bytes below the first one written stay. -/
theorem Memory.lookup_storeBytes_below (bs : List Byte) (m : Memory) {a b : Nat} (h : b < a) :
    (m.storeBytes a bs).lookup b = m.lookup b := by
  induction bs generalizing m a with
  | nil => rfl
  | cons x xs ih =>
    rw [Memory.storeBytes, ih _ (by omega), Memory.lookup_store_ne _ _ (by omega)]

/-- Bytes above the last one written stay. -/
theorem Memory.lookup_storeBytes_above (bs : List Byte) (m : Memory) {a b : Nat} (h : a + bs.length ≤ b) :
    (m.storeBytes a bs).lookup b = m.lookup b := by
  induction bs generalizing m a with
  | nil => rfl
  | cons x xs ih =>
    simp only [List.length_cons] at h
    rw [Memory.storeBytes, ih _ (by omega), Memory.lookup_store_ne _ _ (by omega)]

/-- Byte `i` of those written reads back. -/
theorem Memory.lookup_storeBytes_at (bs : List Byte) (m : Memory) (a : Nat) {i : Nat} (h : i < bs.length) :
    (m.storeBytes a bs).lookup (a + i) = some bs[i] := by
  induction bs generalizing m a i with
  | nil => simp at h
  | cons x xs ih =>
    cases i with
    | zero => rw [Memory.storeBytes, Memory.lookup_storeBytes_below _ _ (by omega)]; simp
    | succ i =>
      have := ih (m.store a x) (a + 1) (i := i) (by simpa using h)
      rw [Memory.storeBytes, show a + (i + 1) = a + 1 + i by omega, this]
      simp

/-- Writing bytes keeps the canonical form. -/
theorem Memory.storeBytes_wf (bs : List Byte) {m : Memory} (h : m.wf) (a : Nat) : (m.storeBytes a bs).wf := by
  induction bs generalizing m a with
  | nil => exact h
  | cons x xs ih => exact ih (Memory.store_wf h a x) (a + 1)

/-- What is listed after writing bytes: their addresses, and what was listed. -/
theorem Memory.mem_storeBytes (bs : List Byte) {m : Memory} {a : Nat} {c : Host.Cell} (h : c ∈ m.storeBytes a bs) :
    (a ≤ c.1 ∧ c.1 < a + bs.length) ∨ c ∈ m := by
  induction bs generalizing m a with
  | nil => exact .inr h
  | cons x xs ih =>
    simp only [List.length_cons]
    rcases ih h with ⟨h1, h2⟩ | h
    · exact .inl ⟨by omega, by omega⟩
    · rcases Memory.mem_store h with rfl | h
      · exact .inl ⟨Nat.le_refl _, by show a < a + (xs.length + 1); omega⟩
      · exact .inr h

/-- Equal memories are equal data: two canonical memories with the same lookups are the same list. -/
theorem Memory.ext_lookup {m n : Memory} (hm : m.wf) (hn : n.wf) (h : ∀ a, m.lookup a = n.lookup a) : m = n := by
  have notMem : ∀ {m : Memory} {k : Nat}, (∀ c ∈ m, k < c.1) → m.lookup k = none := by
    intro m k hk
    rw [← Option.not_isSome_iff_eq_none, Memory.isSome_lookup]
    rintro ⟨v, hv⟩
    exact absurd (hk _ hv) (Nat.lt_irrefl _)
  have below : ∀ {m : Memory} {k a : Nat}, a < k → (∀ c ∈ m, k < c.1) → m.lookup a = none :=
    fun hak hk => notMem fun c hc => Nat.lt_trans hak (hk c hc)
  induction m generalizing n with
  | nil =>
    cases n with
    | nil => rfl
    | cons d n => have := h d.1; simp [Memory.lookup] at this
  | cons c m ih =>
    cases n with
    | nil => have := h c.1; simp [Memory.lookup] at this
    | cons d n =>
      obtain ⟨k, v⟩ := c
      obtain ⟨l, w⟩ := d
      simp only [Memory.wf, List.pairwise_cons] at hm hn
      have hk := h k
      have hl := h l
      simp only [Memory.lookup] at hk hl
      have hkl : k = l := by
        by_contra hne
        rcases Nat.lt_or_gt_of_ne hne with hlt | hlt
        · simp [Ne.symm hne, below hlt hn.1] at hk
        · simp [hne, below hlt hm.1] at hl
      subst hkl
      simp only [if_true, Option.some.injEq] at hk
      subst hk
      congr 1
      refine ih hm.2 hn.2 fun a => ?_
      by_cases ha : k = a
      · subst ha; rw [notMem hm.1, notMem hn.1]
      · simpa [Memory.lookup, ha] using h a

/-! ### The machine's reads of it -/

/-- A byte just written through `mem` reads back. -/
theorem byteAt_storeBytes_at (s : State) (a : Nat) (bs : List Byte) {i : Nat} (h : i < bs.length) :
    State.byteAt { s with mem := s.mem.storeBytes a bs } (a + i) = bs[i] := by
  simp [State.byteAt, Memory.lookup_storeBytes_at _ _ _ h]

/-- Every byte outside those written reads as before. -/
theorem byteAt_storeBytes_outside (s : State) {a b : Nat} (bs : List Byte) (h : b < a ∨ a + bs.length ≤ b) :
    State.byteAt { s with mem := s.mem.storeBytes a bs } b = s.byteAt b := by
  rcases h with h | h
  · simp [State.byteAt, Memory.lookup_storeBytes_below _ _ h]
  · simp [State.byteAt, Memory.lookup_storeBytes_above _ _ h]

/-- A read depends on `mem` and `epoch` alone. -/
theorem byteAt_congr {s t : State} (hm : t.mem = s.mem) (he : t.epoch = s.epoch) (a : Nat) : t.byteAt a = s.byteAt a := by
  simp [State.byteAt, hm, he]

/-- So does `PixRead`. -/
theorem pixRead_congr {s t : State} (hm : t.mem = s.mem) (he : t.epoch = s.epoch) (k : Nat) : t.pixRead k = s.pixRead k :=
  byteAt_congr hm he _

/-- A comment byte depends on `comment` and `epoch` alone. -/
theorem commentByte_congr {s t : State} (hc : t.comment = s.comment) (he : t.epoch = s.epoch) (k : Nat) :
    t.commentByte k = s.commentByte k := by
  simp [State.commentByte, hc, he]

/-- Reset lists no byte, so its memories are canonical. -/
theorem reset_memories_wf : State.reset.mem.wf ∧ State.reset.comment.wf := ⟨List.Pairwise.nil, List.Pairwise.nil⟩

end Sys2Proof.Machine
end

