-- ==== Sys2Proof/Laws/HostPort.lean ====
section
/-! SUPPORT. What each access of the host port can do, said once: the address map, reads of OUTMEM, reads and writes, and the
little-endian forms. -/

namespace Sys2Proof.Machine

variable (s : State)

/-! ### The address map -/

/-- The register block is the first 4 KiB. -/
theorem regionOf_registers (p : Config.Params) (a : Nat) : regionOf p a = some .registers ↔ a < 0x1000 := by
  unfold regionOf
  split_ifs <;> simp <;> (try simp only [cmtbufBase, cmtbufSize, pixmemBase, outmemBase] at *) <;> omega

/-- CMTBUF is 255 bytes. -/
theorem regionOf_cmtbuf (p : Config.Params) (a : Nat) : regionOf p a = some .cmtbuf ↔ 0x1000 ≤ a ∧ a < 0x1000 + 255 := by
  unfold regionOf
  split_ifs <;> simp <;> (try simp only [cmtbufBase, cmtbufSize, pixmemBase, outmemBase] at *) <;> omega

/-- PIXMEM is four bytes for each of MAX_PIXELS pixels. -/
theorem regionOf_pixmem (p : Config.Params) (a : Nat) :
    regionOf p a = some .pixmem ↔ 0x10000000 ≤ a ∧ a < 0x10000000 + 4 * p.maxPixels := by
  unfold regionOf
  split_ifs <;> simp <;> (try simp only [cmtbufBase, cmtbufSize, pixmemBase, outmemBase] at *) <;> omega

/-- OUTMEM lies above every legal PIXMEM. -/
theorem regionOf_outmem {p : Config.Params} (hp : p.maxPixels ≤ 2 ^ 28) (a : Nat) :
    regionOf p a = some .outmem ↔ 0x80000000 ≤ a ∧ a < 0x80000000 + p.outCap := by
  unfold regionOf
  split_ifs <;> simp <;> (try simp only [cmtbufBase, cmtbufSize, pixmemBase, outmemBase] at *) <;> omega

/-- An access to a window has a legal size and alignment, and its first and last byte lie in that window. -/
theorem accessRegion_window {p : Config.Params} {a n : Nat} {r : Region} (h : accessRegion p a n = some r)
    (hr : r ≠ .registers) :
    (n = 1 ∨ n = 2 ∨ n = 4) ∧ a % n = 0 ∧ regionOf p a = some r ∧ regionOf p (a + n - 1) = some r := by
  unfold accessRegion at h
  split at h
  · cases h
  · split at h <;> simp_all
  · rename_i hq
    split at h
    · rename_i hc; cases h; exact ⟨hc.1, hc.2.1, hq, hc.2.2⟩
    · cases h

/-- An access to the register block is an aligned word. -/
theorem accessRegion_registers {p : Config.Params} {a n : Nat} (h : accessRegion p a n = some .registers) :
    n = 4 ∧ a % 4 = 0 ∧ a < 0x1000 := by
  unfold accessRegion at h
  split at h
  · cases h
  · rename_i hq
    split at h
    · rename_i hc; exact ⟨hc.1, hc.2, (regionOf_registers p a).mp hq⟩
    · cases h
  · rename_i hne _
    split at h
    · cases h; exact absurd rfl hne
    · cases h

/-! ### Little-endian forms -/

/-- `leBytes n` gives `n` bytes. -/
@[simp] theorem leBytes_length (n : Nat) (v : Word) : (leBytes n v).length = n := by simp [leBytes]

/-- Byte `i` of the stored bytes. -/
@[simp] theorem leBytes_getElem {n i : Nat} (v : Word) (h : i < (leBytes n v).length) :
    (leBytes n v)[i] = v.extractLsb' (8 * i) 8 := by simp [leBytes]

/-- A number's bytes are a number below `256 ^ length`. -/
theorem leNat_lt (bs : List Byte) : leNat bs < 256 ^ bs.length := by
  induction bs with
  | nil => simp [leNat]
  | cons b bs ih =>
    have := b.isLt
    simp only [leNat, List.length_cons, Nat.pow_succ]
    omega

/-! ### Reads of OUTMEM -/

/-- A byte of OUTMEM below OUT_LEN reads as that byte while the core is idle. -/
theorem readOutByte_stored {k : Nat} (hb : s.busy = false) (h : k < s.out.length) : s.readOutByte k = (s.out[k], s) := by
  simp [State.readOutByte, hb, h]

/-- Every other byte is a fresh draw. -/
theorem readOutByte_drawn {k : Nat} (h : s.busy = true ∨ s.out.length ≤ k) :
    s.readOutByte k = (Config.drawByte s.draws, { s with draws := s.draws + 1 }) := by
  rcases h with h | h
  · simp [State.readOutByte, h]
  · cases hb : s.busy <;> simp [State.readOutByte, hb, h]

/-- One byte read takes at most one draw and changes nothing else. -/
theorem readOutByte_frame (k : Nat) : ∃ d, s.draws ≤ d ∧ (s.readOutByte k).2 = { s with draws := d } := by
  unfold State.readOutByte
  split
  · exact ⟨s.draws, Nat.le_refl _, rfl⟩
  · exact ⟨s.draws + 1, Nat.le_succ _, rfl⟩

/-- So do several. -/
theorem readOutBytes_frame (n k : Nat) : ∃ d, s.draws ≤ d ∧ (s.readOutBytes k n).2 = { s with draws := d } := by
  induction n generalizing s k with
  | zero => exact ⟨s.draws, Nat.le_refl _, rfl⟩
  | succ n ih =>
    obtain ⟨d, hd, h1⟩ := readOutByte_frame s k
    obtain ⟨e, he, h2⟩ := ih (s.readOutByte k).2 (k + 1)
    refine ⟨e, ?_, ?_⟩
    · rw [h1] at he; exact Nat.le_trans hd he
    · show ((s.readOutByte k).2.readOutBytes (k + 1) n).2 = _
      rw [h2, h1]

/-- A read of `n` bytes gives `n` bytes. -/
theorem readOutBytes_length (n k : Nat) : (s.readOutBytes k n).1.length = n := by
  induction n generalizing s k with
  | zero => rfl
  | succ n ih => simp [State.readOutBytes, ih]

/-! ### Writes -/

/-- Above the last register every offset is reserved. -/
theorem regAt_above {a : Nat} (h : 0x048 < a) : regAt a = none := by
  unfold regAt
  repeat rw [if_neg (by omega)]

/-- ARG0 stands at one offset. -/
theorem regAt_arg0 {a : Nat} : regAt a = some .arg0 ↔ a = 0x00C := by
  rcases Nat.lt_or_ge 0x048 a with h | h
  · rw [regAt_above h]; simp; omega
  · have : ∀ a < 0x049, (regAt a = some .arg0 ↔ a = 0x00C) := by decide
    exact this a (by omega)

/-- ARG1 stands at one offset. -/
theorem regAt_arg1 {a : Nat} : regAt a = some .arg1 ↔ a = 0x010 := by
  rcases Nat.lt_or_ge 0x048 a with h | h
  · rw [regAt_above h]; simp; omega
  · have : ∀ a < 0x049, (regAt a = some .arg1 ↔ a = 0x010) := by decide
    exact this a (by omega)

/-- CMD stands at one offset. -/
theorem regAt_cmd {a : Nat} : regAt a = some .cmd ↔ a = 0x008 := by
  rcases Nat.lt_or_ge 0x048 a with h | h
  · rw [regAt_above h]; simp; omega
  · have : ∀ a < 0x049, (regAt a = some .cmd ↔ a = 0x008) := by decide
    exact this a (by omega)

/-- Everything a write can do while the core is idle: set an operand register, start a command, store bytes in a window, or
be refused and change nothing; while it is busy, only the last. -/
theorem busWrite_cases (off : Word) (n : Nat) (v : Word) :
    s.busWrite off n v = (.busError, s)
      ∨ (s.busy = false ∧ off = 0x00C ∧ s.busWrite off n v = (.accepted, { s with arg0 := v }))
      ∨ (s.busy = false ∧ off = 0x010 ∧ s.busWrite off n v = (.accepted, { s with arg1 := v }))
      ∨ (s.busy = false ∧ off = 0x008 ∧ s.busWrite off n v = (.accepted, s.startCommand v))
      ∨ (s.busy = false
          ∧ (accessRegion s.prm off.toNat n = some .cmtbuf ∨ accessRegion s.prm off.toNat n = some .pixmem)
          ∧ s.busWrite off n v = (.accepted, { s with mem := s.mem.storeBytes off.toNat (leBytes n v) })) := by
  cases hb : s.busy with
  | true => exact .inl (by simp [State.busWrite, hb])
  | false =>
    unfold State.busWrite
    simp only [hb, Bool.false_eq_true, if_false]
    split
    · exact .inl rfl
    · rename_i hreg
      split
      · rename_i hr
        exact .inr (.inl ⟨trivial, BitVec.eq_of_toNat_eq (regAt_arg0.mp hr), rfl⟩)
      · rename_i hr
        exact .inr (.inr (.inl ⟨trivial, BitVec.eq_of_toNat_eq (regAt_arg1.mp hr), rfl⟩))
      · rename_i hr
        exact .inr (.inr (.inr (.inl ⟨trivial, BitVec.eq_of_toNat_eq (regAt_cmd.mp hr), rfl⟩)))
      · exact .inl rfl
    · rename_i hreg; exact .inr (.inr (.inr (.inr ⟨trivial, .inl hreg, rfl⟩)))
    · rename_i hreg; exact .inr (.inr (.inr (.inr ⟨trivial, .inr hreg, rfl⟩)))
    · exact .inl rfl

end Sys2Proof.Machine
end

