-- ==== Sys2Proof/Laws/PerInstr.lean ====
section
/-! SUPPORT. Statements made instruction by instruction, over the instruction as syntax. -/

/-- The word of a command: RSV is zero, OPCODE is the command's own, it is well formed, and the opcode selects the command
(30_encoding.md R90, R93). -/
def Sys2Proof.Laws.EncodingShape.Statement (i : Sys2Proof.Instr) : Prop :=
  Sys2Proof.rsvField (Sys2Proof.encode i) = 0 ∧ Sys2Proof.opcodeField (Sys2Proof.encode i) = Sys2Proof.opcode i
    ∧ Sys2Proof.wordWellFormed (Sys2Proof.encode i) = true ∧ i.wellFormed = true
    ∧ Sys2Proof.instrOfOpcode (Sys2Proof.opcode i) = some i

namespace Sys2Proof.Laws.EncodingShape

theorem nop : Statement .nop := by unfold Statement; decide
theorem configure : Statement .configure := by unfold Statement; decide
theorem setQuality : Statement .setQuality := by unfold Statement; decide
theorem setDelay : Statement .setDelay := by unfold Statement; decide
theorem setFrameRate : Statement .setFrameRate := by unfold Statement; decide
theorem setRepeat : Statement .setRepeat := by unfold Statement; decide
theorem setDisposal : Statement .setDisposal := by unfold Statement; decide
theorem setTransparent : Statement .setTransparent := by unfold Statement; decide
theorem setComment : Statement .setComment := by unfold Statement; decide
theorem start : Statement .start := by unfold Statement; decide
theorem addFrame : Statement .addFrame := by unfold Statement; decide
theorem finish : Statement .finish := by unfold Statement; decide
theorem resetSession : Statement .resetSession := by unfold Statement; decide

end Sys2Proof.Laws.EncodingShape
end

