-- ==== Sys2Proof/Laws/Step.lean ====
section
/-! SUPPORT. Everything one step can do, said once, and how runs and latched words unfold. -/

namespace Sys2Proof.Machine

/-- Everything one step can do: run the command in flight, do the illegal-command action, serve the host while a command is in
flight, or serve the host. -/
theorem step_cases {s t : State} (h : step s = .next t) :
    (∃ w i, s.executing = some { word := w, remaining := 0 } ∧ decode w = .command i ∧ exec i s = .next t)
      ∨ (∃ w why, s.executing = some { word := w, remaining := 0 } ∧ decode w = .illegal why ∧ t = s.raise .illegalCommand)
      ∨ (∃ w k, s.executing = some { word := w, remaining := k + 1 }
          ∧ t = State.hostStep { s with executing := some { word := w, remaining := k } })
      ∨ (s.executing = none ∧ t = s.hostStep) := by
  unfold step sequencerStep at h
  split at h
  · rename_i hx; cases h; exact .inr (.inr (.inr ⟨hx, rfl⟩))
  · rename_i c hx
    obtain ⟨w, r⟩ := c
    split at h
    · rename_i hr
      simp only at hr
      subst hr
      unfold runCommand at h
      split at h
      · rename_i i hd; exact .inl ⟨w, i, hx, hd, h⟩
      · rename_i why hd; cases h; exact .inr (.inl ⟨w, why, hx, hd, rfl⟩)
    · rename_i k hr
      simp only at hr
      subst hr
      cases h
      exact .inr (.inr (.inl ⟨w, k, hx, rfl⟩))

/-- What serving the host can do: nothing, or one operation. -/
theorem hostStep_cases (s : State) :
    (s.program = [] ∧ s.hostStep = s)
      ∨ ∃ op rest, s.program = op :: rest ∧ s.hostStep = State.serve { s with program := rest } op := by
  unfold State.hostStep
  cases hp : s.program with
  | nil => exact .inl ⟨rfl, rfl⟩
  | cons op rest => exact .inr ⟨op, rest, rfl, rfl⟩

/-- A latched word that is a command is what the next step runs. -/
theorem step_latch_command {s : State} {w : Word} {i : Instr} (h : decode w = .command i) :
    step (s.latch w) = exec i (s.latch w) := by
  simp [step, sequencerStep, State.latch, runCommand, h]

/-- A latched word that is no command is reported. -/
theorem step_latch_illegal {s : State} {w : Word} {why : Reject} (h : decode w = .illegal why) :
    step (s.latch w) = .next (State.raise (s.latch w) .illegalCommand) := by
  simp [step, sequencerStep, State.latch, runCommand, h, State.illegalCommandAction]

/-- The word of a 32-bit table row is the word itself. -/
theorem tableWord_32 (w : Word) : tableWord 32 w.toNat = w := by
  simp [tableWord, Nat.mod_eq_of_lt w.isLt]

/-- No steps. -/
@[simp] theorem run_zero (M : Host.Core) (s : M.State) : M.run 0 s = .next s := rfl

/-- One step more, of any machine of the host's interface. -/
theorem run_succ (M : Host.Core) {s t : M.State} (n : Nat) (h : M.step s = .next t) : M.run (n + 1) s = M.run n t := by
  simp [Host.Core.run, h]

end Sys2Proof.Machine
end

