-- ==== Sys2Proof/Tests/Slice0.lean ====
section
/-! SUPPORT. The model's own tests. The expected values come from spec/95_test_vectors.md (V2 to V8) and from the rules named, not
from the model. The `witness_` theorems show states and operands that meet the hypotheses of the obligations. -/

namespace Sys2Proof.Machine.Tests

set_option Elab.async false

/-! ### Helpers -/

/-- The next state of an outcome. -/
def nextOf : Host.Outcome State Fault Refusal → State
  | .next t => t
  | .fault r => nomatch r
  | .refused _ => State.reset

/-- The state after a command. -/
def after (i : Instr) (s : State) : State := nextOf (exec i s)

/-- The state after a step. -/
def stepped (s : State) : State := nextOf (step s)

/-- Operands in place. -/
def args (a b : Word) (s : State) : State := { s with arg0 := a, arg1 := b }

/-- A started session, nothing configured. -/
def started : State := { State.reset with lifecycle := .started, out := gifSignature }

/-- A started session of one pixel, ARG0 and ARG1 right for ADD_FRAME, its black pixel written (program P3). -/
def onePixel : State :=
  { started with
    geomSet := true, cfg := { Settings.initial with width := 1, height := 1 }, arg0 := 4,
    mem := [(0x10000000, 0x00), (0x10000001, 0x00), (0x10000002, 0x00), (0x10000003, 0xFF)] }

/-- A started session of 2×2 pixels. -/
def square : State := { started with geomSet := true, cfg := { Settings.initial with width := 2, height := 2 } }

/-- A finished session, no frame (V7.2). -/
def finished : State := { State.reset with lifecycle := .finished, out := gifSignature ++ [0x3B] }

/-- A core built with small memories. -/
def small : State := { State.reset with prm := { maxPixels := 16, outCap := 32, subblockMax := 4 } }

/-- A core with a command in flight. -/
def running (w : Word) (k : Nat) (s : State) : State := { s with executing := some { word := w, remaining := k } }

/-! ### Well-formedness refuses -/

theorem test_wf_commands : Instr.all.all (fun i => i.wellFormed && wordWellFormed (encode i)) = true := by decide
theorem test_wf_word_reserved_bit_8 : wordWellFormed 0x00000110 = false := by decide
theorem test_wf_word_reserved_bit_31 : wordWellFormed 0x80000001 = false := by decide
theorem test_wf_word_unassigned : [0x09, 0x0F, 0x13, 0x1E, 0x20, 0xFF].all (fun w => !wordWellFormed w) = true := by decide
theorem test_wf_params_default : Config.defaultParams.wellFormed = true := by decide
theorem test_wf_params_no_pixels : Config.Params.wellFormed { maxPixels := 0, outCap := 32, subblockMax := 1 } = false := by decide
theorem test_wf_params_pixels : Config.Params.wellFormed { maxPixels := 2 ^ 28 + 1, outCap := 32, subblockMax := 1 } = false := by
  decide
theorem test_wf_params_small_out : Config.Params.wellFormed { maxPixels := 1, outCap := 31, subblockMax := 1 } = false := by decide
theorem test_wf_params_out : Config.Params.wellFormed { maxPixels := 1, outCap := 2 ^ 30 + 1, subblockMax := 1 } = false := by decide
theorem test_wf_params_no_subblock : Config.Params.wellFormed { maxPixels := 1, outCap := 32, subblockMax := 0 } = false := by decide
theorem test_wf_params_subblock : Config.Params.wellFormed { maxPixels := 1, outCap := 32, subblockMax := 256 } = false := by decide

/-! ### Decoding: the words of 30_encoding.md R93, bit 31 down to bit 0 -/

theorem test_decode_nop : decode 0b00000000000000000000000000000000 = .command .nop := by decide
theorem test_decode_configure : decode 0b00000000000000000000000000000001 = .command .configure := by decide
theorem test_decode_setQuality : decode 0b00000000000000000000000000000010 = .command .setQuality := by decide
theorem test_decode_setDelay : decode 0b00000000000000000000000000000011 = .command .setDelay := by decide
theorem test_decode_setFrameRate : decode 0b00000000000000000000000000000100 = .command .setFrameRate := by decide
theorem test_decode_setRepeat : decode 0b00000000000000000000000000000101 = .command .setRepeat := by decide
theorem test_decode_setDisposal : decode 0b00000000000000000000000000000110 = .command .setDisposal := by decide
theorem test_decode_setTransparent : decode 0b00000000000000000000000000000111 = .command .setTransparent := by decide
theorem test_decode_setComment : decode 0b00000000000000000000000000001000 = .command .setComment := by decide
theorem test_decode_start : decode 0b00000000000000000000000000010000 = .command .start := by decide
theorem test_decode_addFrame : decode 0b00000000000000000000000000010001 = .command .addFrame := by decide
theorem test_decode_finish : decode 0b00000000000000000000000000010010 = .command .finish := by decide
theorem test_decode_resetSession : decode 0b00000000000000000000000000011111 = .command .resetSession := by decide

/-- The first and last word of every illegal range of R96. -/
theorem test_decode_illegal : [0x09, 0x0F, 0x13, 0x1E, 0x20, 0xFF].all (fun w => decide (decode w = .illegal .unassignedOpcode))
    = true := by decide
theorem test_decode_reserved : [0x100, 0x110, 0x80000000, 0xFFFFFF01].all (fun w => decide (decode w = .illegal .reservedBits))
    = true := by decide
theorem test_decode_table_word : decodeTableWord 32 0x11 = some .addFrame ∧ decodeTableWord 32 0x13 = none := by decide
theorem test_fetch_word : (stepped (State.reset.withFetchWord 32 0x10)).lifecycle = .started := by decide
theorem test_fetch_illegal : (stepped (State.reset.withFetchWord 32 0x13)).errcode = .illegalCommand := by decide

/-! ### The setting commands (V2) -/

theorem test_configure : (after .configure (args 4 4 State.reset)).cfg.geomWord = 0x00040004 := by decide
theorem test_configure_product : (after .configure (args 2049 2048 State.reset)).errcode = .configurationError := by decide
theorem test_setQuality : (after .setQuality (args 30 0 State.reset)).cfg.qualityWord = 30 := by decide
theorem test_setQuality_range : (after .setQuality (args 31 0 State.reset)).errcode = .configurationError := by decide
theorem test_setDelay_rounds : (after .setDelay (args 15 0 State.reset)).cfg.delayWord = 2 := by decide
theorem test_setDelay_range : (after .setDelay (args 655355 0 State.reset)).errcode = .configurationError := by decide
theorem test_setFrameRate : (after .setFrameRate (args 8 0 State.reset)).cfg.delayWord = 13 := by decide
theorem test_setFrameRate_zero : (after .setFrameRate (args 0 0 State.reset)).errcode = .configurationError := by decide
theorem test_setRepeat_once : (after .setRepeat (args 0xFFFFFFFF 0 State.reset)).cfg.loops = 0xFFFFFFFF := by decide
theorem test_setRepeat_range : (after .setRepeat (args 0xFFFFFFFE 0 State.reset)).errcode = .configurationError := by decide
theorem test_setDisposal : (after .setDisposal (args 7 0 State.reset)).cfg.disposalWord = 7 := by decide
theorem test_setDisposal_range : (after .setDisposal (args 8 0 State.reset)).errcode = .configurationError := by decide
theorem test_setTransparent : (after .setTransparent (args 0x00FF00 1 State.reset)).cfg.transpWord = 0x0100FF00 := by decide
theorem test_setTransparent_checks_when_clearing :
    (after .setTransparent (args 0x01000000 0 State.reset)).errcode = .configurationError := by decide
theorem test_setComment :
    (after .setComment (args 2 0 { State.reset with mem := [(0x1000, 0x68), (0x1001, 0x69)] })).commentBytes = [0x68, 0x69] := by
  decide
theorem test_setComment_range : (after .setComment (args 256 0 State.reset)).errcode = .configurationError := by decide

/-! ### The session commands (V6, V7) -/

theorem test_start_twice : (after .start (after .start State.reset)).out = [0x47, 0x49, 0x46, 0x38, 0x39, 0x61] := by decide
theorem test_start_finished : (after .start finished).errcode = .invalidState := by decide
theorem test_finish : (after .finish started).out = [0x47, 0x49, 0x46, 0x38, 0x39, 0x61, 0x3B] := by decide
theorem test_finish_again : (after .finish finished).errcode = .invalidState ∧ (after .finish finished).outLen = 7 := by decide
theorem test_nop_clears_report : (after .nop (after .finish finished)).statusWord = 0x0000000A := by decide
theorem test_resetSession : (after .resetSession onePixel).statusWord = 0x00000002 ∧ (after .resetSession onePixel).arg0 = 4 := by
  decide

/-- V7.3: the format is checked before the length. -/
theorem test_addFrame_order : (after .addFrame (args 15 1 square)).errcode = .invalidInputType := by decide

/-- Program P3, V4.12, V6: a black pixel on the default settings: everything after the palette. -/
theorem test_addFrame_one_pixel : (after .addFrame onePixel).out.drop 781
    = [0x21, 0xF9, 0x04, 0x00, 0x00, 0x00, 0x00, 0x00, 0x2C, 0x00, 0x00, 0x00, 0x00, 0x01, 0x00, 0x01, 0x00, 0x00,
       0x08, 0x04, 0x00, 0x0B, 0x04, 0x04, 0x00] := by decide +kernel

/-! ### The blocks (V6) -/

theorem test_lsd : lsdBytes { Settings.initial with width := 300, height := 200 } = [0x2C, 0x01, 0xC8, 0x00, 0xF7, 0x00, 0x00] := by
  decide
theorem test_gce : gceBytes { Settings.initial with delay := 300, disposal := 7, transpEn := true } 5
    = [0x21, 0xF9, 0x04, 0x1D, 0x2C, 0x01, 0x05, 0x00] := by decide
theorem test_descriptor : descriptorBytes { Settings.initial with width := 300, height := 200 } false
    = [0x2C, 0x00, 0x00, 0x00, 0x00, 0x2C, 0x01, 0xC8, 0x00, 0x87] := by decide
theorem test_comment_extension : commentExtension { Settings.initial with commentLen := 2 } [0x68, 0x69]
    = [0x21, 0xFE, 0x02, 0x68, 0x69, 0x00] := by decide
theorem test_netscape_forever : netscapeBytes { Settings.initial with loops := 0 }
    = [0x21, 0xFF, 0x0B, 0x4E, 0x45, 0x54, 0x53, 0x43, 0x41, 0x50, 0x45, 0x32, 0x2E, 0x30, 0x03, 0x01, 0x00, 0x00, 0x00] := by
  decide

/-! ### The quantizer (V4) -/

/-- Datapath state to start from: any would do, since every use of it writes what it reads (10_state.md R52). -/
def blankQuant : Quant :=
  { net := [], freq := [], bias := [], radpower := [], netindex := [], alpha := 0, radius := 0, rad := 0, alphadec := 0,
    samplepixels := 0, delta := 0, stride := 0, pix := 0, i := 0, qEff := 0 }

/-- The same for the compressor. -/
def blankLzw : Lzw :=
  { dict := [], freeEnt := 0, nBits := 0, maxcode := 0, clearFlg := false, ent := 0, acc := 0, accBits := 0, pkt := [], pos := 0 }

/-- The initial network, set up for 16 pixels. -/
def net0 : Quant := nqLearnSetup 48 10 (nqInit blankQuant)

theorem test_learnSetup : (net0.qEff, net0.alphadec, net0.samplepixels, net0.delta, net0.stride) = (1, 30, 16, 1, 3) := by
  decide +kernel
theorem test_learnSetup_first_large :
    ((nqLearnSetup 1509 30 blankQuant).alphadec, (nqLearnSetup 1509 30 blankQuant).samplepixels) = (39, 16) := by
  decide +kernel
theorem test_stride : [48, 3072, 2994, 735027].map nqStride = [3, 1497, 1473, 1461] := by decide +kernel
theorem test_radpower : net0.radpower.take 4 = [262144, 261120, 261120, 259072] ∧ net0.radpower.drop 30 = [31744, 15360] := by
  decide +kernel
theorem test_contest : let r := nqContest { x0 := 4080, x1 := 0, x2 := 0 } net0
    r.1 = 0 ∧ r.2.freq.take 2 = [320, 256] ∧ r.2.bias.take 2 = [-65536, 0] := by decide +kernel
theorem test_alterSingle : moveNeuron 602 1024 { x0 := 4080, x1 := 0, x2 := 0 } { c0 := 1360, c1 := 1360, c2 := 1360, idx := 85 }
    = { c0 := 2959, c1 := 561, c2 := 561, idx := 85 } := by decide
theorem test_move_truncates : moveChannel 1000 1024 0 4080 = 3984 ∧ moveChannel 1000 1024 1600 0 = 38 := by decide
theorem test_alterNeigh : [1, 2, 31, 32].map (fun k =>
      (((nqAlterNeigh 32 0 { x0 := 4080, x1 := 4080, x2 := 4080 } net0).net.map Neuron.c0).getD k 0)) = [4064, 4064, 706, 512] := by
  decide +kernel
theorem test_unbias : [4080, 4064, 2959, 15].map (fun c => (unbiasNeuron 0 { c0 := c, c1 := 0, c2 := 0, idx := 0 }).c0)
    = [255, 254, 184, 0] := by decide

/-- The grey network of V4.10. -/
def grey : Quant := nqIndexBuild (nqUnbias (nqInit blankQuant))

theorem test_nearest_grey : nqNearest grey 10 20 30 = 20 ∧ nqNearest grey 100 100 101 = 100 := by decide +kernel
theorem test_transparent_grey : (State.transparentIndex { State.reset with
      dp := .values { samples := [], indices := [], palette := [], tidx := 0, quant := grey, lzw := blankLzw },
      cfg := { Settings.initial with transpRgb := 0x0A141E, transpEn := true } }).datapath.tidx
    = 20 := by decide +kernel

/-! ### The compressor (V5) -/

/-- The Image Data block of a frame of these indices. -/
def imageData (limit : Nat) (idx : List Byte) : List Byte := imageDataBytes (lzwEncode limit idx blankLzw).2

theorem test_lzw_alternating : imageData 255 [0, 1, 0, 1, 0, 1, 0, 1]
    = [0x08, 0x08, 0x00, 0x01, 0x04, 0x10, 0x48, 0x30, 0x40, 0x40, 0x00] := by decide +kernel
theorem test_lzw_four_colours : imageData 255 [0, 32, 62, 255]
    = [0x08, 0x07, 0x00, 0x01, 0x80, 0xF0, 0xF1, 0x2F, 0x20, 0x00] := by decide +kernel
theorem test_lzw_subblocks : imageData 4 (List.replicate 16 7)
    = [0x08, 0x04, 0x00, 0x0F, 0x08, 0x1C, 0x04, 0x48, 0xB0, 0xE0, 0x81, 0x01, 0x80, 0x00] := by decide +kernel
theorem test_lzw_reads_back : lzwDecodeFrame (lzwEncode 4 [7, 7, 7, 7, 3] blankLzw).2 = some [7, 7, 7, 7, 3] := by decide +kernel

/-! ### The host port (V8; 20_memory.md) -/

theorem test_id : (State.reset.busRead 0x000 4).1 = .data 0x4E514C47 := by decide
theorem test_status_reset : (State.reset.busRead 0x014 4).1 = .data 0x00000002 := by decide
theorem test_quality_reset : (State.reset.busRead 0x028 4).1 = .data 10 := by decide
theorem test_repeat_reset : (State.reset.busRead 0x030 4).1 = .data 0xFFFFFFFF := by decide
theorem test_register_byte_read : (State.reset.busRead 0x014 1).1 = .busError := by decide
theorem test_register_reserved : (State.reset.busRead 0x04C 4).1 = .busError := by decide
theorem test_status_read_only : (State.reset.busWrite 0x014 4 0).1 = .busError := by decide
theorem test_cmtbuf_end : (State.reset.busWrite 0x10FC 4 0).1 = .busError ∧ (State.reset.busWrite 0x10FE 1 0).1 = .accepted := by
  decide
theorem test_pixmem_misaligned : (State.reset.busWrite 0x10000001 2 0).1 = .busError := by decide
theorem test_pixmem_little_endian : ((State.reset.busWrite 0x10000000 4 0x04030201).2.busRead 0x10000002 2).1 = .data 0x0403 := by
  decide
theorem test_busy_write_lost :
    (State.busWrite (running 0x10 1 State.reset) 0x00C 4 5) = (.busError, running 0x10 1 State.reset) := by decide
theorem test_busy_status : (State.busRead (running 0x10 1 State.reset) 0x014 4).1 = .data 0x00000003 := by decide
theorem test_cmd_write_starts : (State.reset.busWrite 0x008 4 0x10).2.executing = some { word := 0x10, remaining := 0 } := by decide

/-- V7.5: at a full OUT the bytes are dropped, and START's signature fits. -/
theorem witness_Append : small.out.length < small.prm.outCap ∧ small.prm.outCap ≤ (small.appendSeq (List.replicate 32 0)).out.length := by
  decide
theorem test_overflow : (small.appendSeq (List.replicate 33 0)).outLen = 32 ∧ (small.appendSeq (List.replicate 33 0)).ovf = true
    ∧ (small.appendSeq (List.replicate 32 0)).ovf = false := by decide

/-! ### Witnesses: the hypotheses of the obligations are met -/

/-- The legal states: a core with small memories and a session of one locked frame size. -/
def legal : State :=
  { small with
    lifecycle := .started, out := gifSignature, geomSet := true, mem := [(0x1000, 0x68), (0x10000000, 0xFF)],
    comment := [(0, 0x68)], cfg := { Settings.initial with width := 4, height := 4, commentLen := 1 } }

/-- The same, finished. -/
def legalFinished : State := { legal with lifecycle := .finished, out := gifSignature ++ [0x3B] }

theorem witness_inv : Inv legal := by constructor <;> decide
theorem witness_inv_finished : Inv legalFinished := by constructor <;> decide

theorem witness_StepKeepsLegalStates : Inv legal ∧ ∃ t, step legal = .next t := ⟨witness_inv, _, rfl⟩
theorem witness_FinishedOutputIsFramed :
    Inv legalFinished ∧ Host.Core.run Sys2Proof.core 0 legalFinished = .next legalFinished ∧ legalFinished.lifecycle = .finished
      ∧ legalFinished.ovf = false :=
  ⟨witness_inv_finished, rfl, rfl, rfl⟩

theorem witness_IllegalWordOnlyReports :
    (running 0x09 0 started).executing = some { word := 0x09, remaining := 0 }
      ∧ [0x100, 0xFFFFFFFF].all (fun w : Word => decide (256 ≤ w.toNat)) = true
      ∧ [0x09, 0x0F].all (fun w : Word => decide (0x09 ≤ w.toNat ∧ w.toNat ≤ 0x0F)) = true
      ∧ [0x13, 0x1E].all (fun w : Word => decide (0x13 ≤ w.toNat ∧ w.toNat ≤ 0x1E)) = true
      ∧ [0x20, 0xFF].all (fun w : Word => decide (0x20 ≤ w.toNat ∧ w.toNat ≤ 0xFF)) = true := by decide
theorem witness_StepRunsCommandInFlight :
    (running 0x10 0 started).executing = some { word := 0x10, remaining := 0 } ∧ decode 0x10 = .command .start
      ∧ (running 0x13 0 started).executing = some { word := 0x13, remaining := 0 } ∧ decode 0x13 = .illegal .unassignedOpcode
      ∧ (running 0x10 1 started).executing = some { word := 0x10, remaining := 0 + 1 } ∧ started.executing = none := by decide

/-- FATAL is set by no command, so this state is reached by none; the gate stands all the same. -/
def fatal : State := { started with fatal := true }

theorem witness_SettingsCompleteOrOnlyReport :
    Instr.isSetting .setDelay = true ∧ fatal.fatal = true
      ∧ (started.fatal = false ∧ State.locked { started with locked := true } = true)
      ∧ (finished.fatal = false ∧ finished.lifecycle = .finished) := by decide

theorem witness_settable : Settable State.reset ∧ Settable started := by unfold Settable; decide
theorem witness_settable_any_operands (a b : Word) : Settable (args a b State.reset) := by
  unfold Settable args; exact ⟨rfl, rfl, by simp [State.reset]⟩

/-- The least and the greatest geometry, and one beyond each bound. -/
theorem witness_ConfigureSetsGeometry :
    [(1, 1), (65535, 1), (1, 65535), (2048, 2048)].all (fun p : Nat × Nat =>
      decide (1 ≤ p.1 ∧ p.1 ≤ 65535 ∧ 1 ≤ p.2 ∧ p.2 ≤ 65535 ∧ p.1 * p.2 ≤ Config.defaultParams.maxPixels)) = true
    ∧ [(0, 1), (1, 0), (65536, 1), (1, 65536), (2049, 2048)].all (fun p : Nat × Nat =>
      decide (p.1 < 1 ∨ p.1 > 65535 ∨ p.2 < 1 ∨ p.2 > 65535 ∨ p.1 * p.2 > Config.defaultParams.maxPixels)) = true := by decide
theorem witness_SetQuality : [1, 30].all (fun w : Word => decide (1 ≤ w.toNat ∧ w.toNat ≤ 30)) = true
    ∧ [0, 31].all (fun w : Word => decide (w.toNat < 1 ∨ w.toNat > 30)) = true := by decide
theorem witness_SetDelay : [0, 655354].all (fun w : Word => decide (w.toNat ≤ 655354)) = true
    ∧ [655355, 0xFFFFFFFF].all (fun w : Word => decide (655354 < w.toNat)) = true := by decide
theorem witness_SetFrameRate : [1, 0xFFFFFFFF].all (fun w : Word => decide (w.toNat ≠ 0)) = true ∧ (0 : Word) = 0 := by decide
theorem witness_SetRepeat : [0xFFFFFFFF, 0, 65535].all (fun w : Word => decide (-1 ≤ w.toInt ∧ w.toInt ≤ 65535)) = true
    ∧ [0xFFFFFFFE, 0x80000000, 65536, 0x7FFFFFFF].all (fun w : Word => decide (w.toInt < -1 ∨ 65535 < w.toInt)) = true := by
  decide
theorem witness_SetDisposal : [0, 7].all (fun w : Word => decide (w.toNat ≤ 7)) = true
    ∧ [8, 0xFFFFFFFF].all (fun w : Word => decide (7 < w.toNat)) = true := by decide
theorem witness_SetTransparent : [0, 0xFFFFFF].all (fun w : Word => decide (w.toNat ≤ 0xFFFFFF)) = true
    ∧ [0x01000000, 0xFFFFFFFF].all (fun w : Word => decide (0xFFFFFF < w.toNat)) = true
    ∧ [2, 0xFFFFFFFF].all (fun w : Word => decide (1 < w.toNat)) = true := by decide
theorem witness_SetComment : [0, 255].all (fun w : Word => decide (w.toNat ≤ 255)) = true
    ∧ [256, 0xFFFFFFFF].all (fun w : Word => decide (255 < w.toNat)) = true := by decide

theorem witness_StartWritesSignatureOnce :
    (State.reset.fatal = false ∧ State.reset.lifecycle = .unconfigured) ∧ (started.fatal = false ∧ started.lifecycle = .started)
      ∧ finished.lifecycle = .finished ∧ fatal.fatal = true := by decide
theorem witness_AddFrameChecksInOrder :
    State.reset.lifecycle ≠ .started ∧ fatal.fatal = true
      ∧ (started.fatal = false ∧ started.lifecycle = .started ∧ (args 0 1 started).arg1 ≠ 0)
      ∧ (started.fatal = false ∧ started.lifecycle = .started ∧ started.arg1 = 0 ∧ started.geomSet = false) := by decide
theorem witness_DimensionMismatchAppendsTail :
    square.fatal = false ∧ square.lifecycle = .started ∧ square.arg1 = 0 ∧ square.geomSet = true
      ∧ (args 15 0 square).arg0.toNat ≠ 4 * (square.cfg.width.toNat * square.cfg.height.toNat) := by decide
theorem witness_FrameAccepted : FrameAccepted onePixel ∧ FrameAccepted { args 16 0 square with locked := true } := by
  unfold FrameAccepted; decide
theorem witness_FinishWritesTrailer :
    (started.fatal = false ∧ started.lifecycle = .started) ∧ finished.lifecycle ≠ .started ∧ fatal.fatal = true := by decide
theorem witness_DatapathNeverReadAcrossCommands : ∃ t, exec .addFrame onePixel = .next t := by
  unfold exec execAddFrame
  rw [if_neg (by decide), if_neg (by decide), if_neg (by decide), if_neg (by decide)]
  exact ⟨_, rfl⟩

/-- R52: the datapath state after a command is a new draw, after NOP as after a frame. -/
theorem test_datapath_drawn_anew : (after .nop started).dp = .draw 1 ∧ (after .nop (after .nop started)).dp = .draw 2
    ∧ (after .addFrame onePixel).dp = .draw 1 := by decide +kernel

/-- For the rules over every command: one that completes, and one that raises with nothing else changed. -/
theorem witness_command_completes : ∃ t, exec .nop started = .next t := ⟨_, rfl⟩
theorem witness_command_raises : ∃ t, exec .start finished = .next t ∧ t.result = false ∧ t.errcode ≠ .dimensionMismatch :=
  ⟨_, rfl, by decide⟩
theorem witness_OnlyLifecycleCommandsChangeState : ∃ t, exec .start State.reset = .next t ∧ t.lifecycle ≠ State.reset.lifecycle :=
  ⟨_, rfl, by decide⟩
theorem witness_StickyBits : ∃ t, exec .nop { started with bufInvalid := true, ovf := true, locked := true } = .next t
    ∧ Instr.nop ≠ .resetSession := ⟨_, rfl, by decide⟩
theorem witness_FatalGatesEveryCommand : fatal.fatal = true ∧ Instr.setDelay ≠ .nop ∧ Instr.setDelay ≠ .resetSession
    ∧ decode 0x13 = .illegal .unassignedOpcode := by decide
theorem witness_FinishedRefusesTheRest : finished.fatal = false ∧ finished.lifecycle = .finished := by decide
theorem witness_SettingsFrozenOnceLocked : ∃ t, exec .setDelay { started with locked := true } = .next t
    ∧ Instr.setDelay ≠ .resetSession ∧ State.locked { started with locked := true } = true := ⟨_, rfl, by decide⟩
theorem witness_OutputIsAppendOnly : ∃ t, step (running 0x12 0 started) = .next t := ⟨_, rfl⟩

theorem witness_AccessMapIsExact : Config.defaultParams.wellFormed = true
    ∧ accessRegion Config.defaultParams 0xFFC 4 = some .registers ∧ accessRegion Config.defaultParams 0x10FE 1 = some .cmtbuf
    ∧ accessRegion Config.defaultParams 0x10FE 2 = none
    ∧ accessRegion Config.defaultParams (0x10000000 + 4 * 2 ^ 22 - 4) 4 = some .pixmem
    ∧ accessRegion Config.defaultParams (0x10000000 + 4 * 2 ^ 22) 1 = none
    ∧ accessRegion Config.defaultParams (0x80000000 + 2 ^ 26 - 1) 1 = some .outmem := by decide
theorem witness_RefusedAccessChangesNothing :
    (State.reset.busRead 0x04C 4).1 = .busError ∧ (State.reset.busWrite 0x80000000 1 0).1 = .busError
      ∧ State.busy (running 0 1 State.reset) = true ∧ accessRegion State.reset.prm 0x2000 4 = none
      ∧ accessRegion State.reset.prm 0x80000000 1 = some .outmem ∧ accessRegion State.reset.prm 0x014 4 = some .registers
      ∧ accessRegion State.reset.prm 0xFFC 4 = some .registers := by decide
theorem witness_OperandAndCommandRegistersWork : State.reset.busy = false := by decide
theorem witness_WindowWriteThenReadGivesData : State.reset.busy = false
    ∧ accessRegion State.reset.prm (0x10000000 : Word).toNat 4 = some .pixmem
    ∧ accessRegion State.reset.prm (0x10FFFFFE : Word).toNat 2 = some .pixmem
    ∧ accessRegion State.reset.prm (0x10FE : Word).toNat 1 = some .cmtbuf := by decide
/-- Seven bytes of OUT: a read below OUT_LEN, one that ends at it, one that reaches over it. -/
theorem witness_OutputReadBackGivesOut : finished.busy = false ∧ finished.prm.wellFormed = true ∧ finished.out.length = 7
    ∧ accessRegion finished.prm (0x80000000 + 0) 4 = some .outmem ∧ accessRegion finished.prm (0x80000000 + 4) 2 = some .outmem
    ∧ accessRegion finished.prm (0x80000000 + 6) 1 = some .outmem ∧ accessRegion finished.prm (0x80000000 + 4) 4 = some .outmem := by
  decide
/-- "GIF8", little-endian (R67). -/
theorem test_read_out_word : finished.busRead 0x80000000 4 = (.data 0x38464947, finished) := by decide
theorem witness_StatusAndConstantsReadAsLaidOut : finished.busy = false ∧ (running 0 1 finished).busy = true := by decide
theorem witness_NothingChangesWhileBusy : ∃ t,
    State.executing { running 0x10 1 started with program := [.write 0x00C 4 5] } = some { word := 0x10, remaining := 0 + 1 }
      ∧ (State.program { running 0x10 1 started with program := [.write 0x00C 4 5] }).head? = some (.write 0x00C 4 5)
      ∧ step { running 0x10 1 started with program := [.write 0x00C 4 5] } = .next t := ⟨_, rfl, rfl, rfl⟩
theorem witness_CommandEndsInFiniteTime :
    (running 0x11 5 started).executing = some { word := 0x11, remaining := 5 } ∧ BusOp.powerOnReset ∉ (running 0x11 5 started).program := by
  decide

/-- Two memories that differ in the alpha byte of pixel 0 alone. -/
theorem witness_AlphaNeverMatters (k j : Nat) (hj : j < 3) :
    State.pixRead { onePixel with mem := [(0x10000000, 0x00), (0x10000001, 0x00), (0x10000002, 0x00), (0x10000003, 0x00)] } (4 * k + j)
      = onePixel.pixRead (4 * k + j) := by
  have h : ¬ 0x10000003 = 0x10000000 + (4 * k + j) := by omega
  simp [State.pixRead, State.byteAt, Memory.lookup, onePixel, pixmemBase, started]
  simp [h]

theorem witness_TransparentIndexIsLookupOrZero : State.reset.cfg.transpEn = false
    ∧ (after .setTransparent (args 0x00FF00 1 State.reset)).cfg.transpEn = true := by decide
/-- A frame of one pixel; at its first turn RAD = 32, so weights 0 to 31 are stated. -/
theorem witness_SamplingStaysInsideFrame : ([0x00, 0x00, 0xFF] : List Byte).length = 3 * 1 ∧ 1 ≤ 1 ∧ 0 < net0.rad ∧ 31 < net0.rad := by
  decide +kernel
theorem witness_TrainedChannelsStayInRange : 1 ≤ 1 ∧ 1 ≤ 30 ∧ 30 ≤ 30 := by decide
theorem witness_ContestPicksFirstLeast : net0.net.length = 256 ∧ net0.freq.length = 256 ∧ net0.bias.length = 256
    ∧ ∀ k < 256, distAt net0.net { x0 := 4080, x1 := 0, x2 := 0 } k < 0x7FFFFFFF
      ∧ distAt net0.net { x0 := 4080, x1 := 0, x2 := 0 } k - net0.bias.getD k 0 / 4096 < 0x7FFFFFFF := by decide +kernel
theorem witness_ContestKeepsBiasIdentity : blankQuant.bias = blankQuant.freq.map fun f => 1024 * (256 - f) := by decide
theorem witness_NeighbourUpdateIsDistanceWeighted : net0.net.length = 256 ∧ 0 < 256 ∧ 255 < 256 := by decide +kernel
/-- A network of one colour. -/
def flat : Quant := { blankQuant with net := List.replicate 256 { c0 := 1, c1 := 7, c2 := 3, idx := 0 } }

theorem witness_PaletteSurvivesIndexBuild : net0.net.length = 256 ∧ (nqIndexBuild (nqUnbias net0)).net ≠ [] := by decide +kernel
/-- All keys present, and only the key 7 present: below it, at it and above it. -/
theorem witness_IndexBuildSortsOnGreen :
    (grey.net = grey.net.headD default :: grey.net.tail ∧ grey.net.length = 256 ∧ (∀ n ∈ grey.net, 0 ≤ n.c1 ∧ n.c1 ≤ 255) ∧ (∃ n ∈ grey.net, n.c1 = ((0 : Nat) : Int))
      ∧ ∃ n ∈ grey.net, n.c1 = ((255 : Nat) : Int))
    ∧ (flat.net.length = 256 ∧ (∀ n ∈ flat.net, 0 ≤ n.c1 ∧ n.c1 ≤ 255) ∧ (∃ n ∈ flat.net, n.c1 = ((7 : Nat) : Int))
      ∧ (¬ ∃ n ∈ flat.net, n.c1 = ((6 : Nat) : Int)) ∧ ¬ ∃ n ∈ flat.net, n.c1 = ((8 : Nat) : Int)) := by decide +kernel
/-- R158 by hand on equal keys 7: NETINDEX[0] = (0 + 0) >> 1, then 0 up to 6, NETINDEX[7] = (0 + 255) >> 1, then 255. -/
theorem test_netindex_flat : [0, 6, 7, 8, 255].map (fun g => (nqIndexBuild flat).netindex.getD g 9) = [0, 0, 127, 255, 255] := by
  decide +kernel
theorem witness_NearestHasLeastDistance : grey.net.length = 256
    ∧ (∀ n ∈ grey.net, 0 ≤ n.c0 ∧ n.c0 ≤ 255 ∧ 0 ≤ n.c1 ∧ n.c1 ≤ 255 ∧ 0 ≤ n.c2 ∧ n.c2 ≤ 255)
    ∧ grey.net.Pairwise (fun a b => a.c1 ≤ b.c1) := by decide +kernel
theorem witness_BitWriterStaysInBounds :
    let l := lzwInit blankLzw
    l.accBits ≤ 7 ∧ l.acc.toNat < 2 ^ l.accBits ∧ 9 ≤ l.nBits ∧ l.nBits ≤ 12 ∧ l.freeEnt ≤ 4096
      ∧ l.maxcode = (if l.nBits = 12 then 4096 else 2 ^ l.nBits - 1) ∧ l.pkt.length < 1 ∧ 257 < 2 ^ l.nBits ∧ 511 < 2 ^ l.nBits := by
  decide
theorem witness_Compression : ([0x05] : List Byte) ≠ [] ∧ 1 ≤ 1 ∧ 1 ≤ 255 ∧ 255 ≤ 255 := by decide

end Sys2Proof.Machine.Tests
end

section
/-! PROOFS of the state family (10_state.md): every step keeps the legal states, no command reads the datapath state it finds,
and what a command, a register access and a step can do to each field of the state. -/

namespace Sys2Proof.Machine

section
variable (s : State)

/-! ### Append: what it keeps -/

/-- AppendSeq writes OUT and the two bits of a dropped byte, and nothing else. -/
theorem appendSeq_frame (bs : List Byte) : s.appendSeq bs
    = { s with out := (s.appendSeq bs).out, ovf := (s.appendSeq bs).ovf, bufInvalid := (s.appendSeq bs).bufInvalid } := by
  unfold State.appendSeq
  dsimp only
  split <;> rfl

/-- `Append` is `AppendSeq` of one byte, in every state. -/
theorem append_eq_appendSeq (b : Byte) : s.append b = s.appendSeq [b] := by
  rcases Nat.lt_or_ge s.out.length s.prm.outCap with h | h
  · rw [append_stored s b h, appendSeq_stored s [b] (by simp; omega)]
  · have hroom : s.prm.outCap - s.out.length = 0 := by omega
    rw [append_dropped s b h, appendSeq_dropped s [b] (by simp [hroom]), hroom]
    simp

/-- A sequence appended never clears OVF. -/
theorem appendSeq_keeps_ovf (bs : List Byte) (h : s.ovf = true) : (s.appendSeq bs).ovf = true := by
  rcases appendSeq_bits s bs with ⟨ho, -⟩ | ⟨ho, -⟩
  · rw [ho, h]
  · exact ho

/-- A sequence appended never clears BUF_INVALID. -/
theorem appendSeq_keeps_bufInvalid (bs : List Byte) (h : s.bufInvalid = true) : (s.appendSeq bs).bufInvalid = true := by
  rcases appendSeq_bits s bs with ⟨-, hb⟩ | ⟨-, hb⟩
  · rw [hb, h]
  · exact hb

/-- The frame's bytes never clear OVF. -/
theorem framePipeline_keeps_ovf (h : s.ovf = true) : s.framePipeline.ovf = true := by
  rw [framePipeline_eq]
  refine appendSeq_keeps_ovf _ _ (appendSeq_keeps_ovf _ _ ?_)
  rwa [frameDatapath_ovf]

/-- The frame's bytes never clear BUF_INVALID. -/
theorem framePipeline_keeps_bufInvalid (h : s.bufInvalid = true) : s.framePipeline.bufInvalid = true := by
  rw [framePipeline_eq]
  refine appendSeq_keeps_bufInvalid _ _ (appendSeq_keeps_bufInvalid _ _ ?_)
  rwa [frameDatapath_bufInvalid]

/-! ### Everything a command can do -/

/-- How the command `i` can end from `s`: one constructor per kind of end, with the state it leaves. -/
inductive CommandEnd (i : Instr) (s : State) : State → Prop
  /-- An error is reported and nothing else changes. -/
  | raises (e : ErrorCode) (hi : i ≠ .resetSession)
      (he : e = .configurationError ∨ e = .invalidState ∨ e = .invalidInputType) : CommandEnd i s (s.raise e)
  /-- The command completes and changes nothing else: NOP, and a second START. -/
  | completes (hi : i = .nop ∨ i = .start) : CommandEnd i s s.complete
  /-- A setting command writes its registers. -/
  | sets (cfg : Settings) (geomSet : Bool) (comment : Memory) (hi : i.isSetting = true) :
      CommandEnd i s (State.complete { s with cfg := cfg, geomSet := geomSet, comment := comment })
  /-- START opens the session. -/
  | starts (hi : i = .start) (hl : s.lifecycle = .unconfigured) :
      CommandEnd i s (State.complete { s.appendSeq gifSignature with lifecycle := .started })
  /-- ADD_FRAME of a wrong length. -/
  | mismatches (hi : i = .addFrame) (hl : s.lifecycle = .started) :
      CommandEnd i s (s.dimensionMismatchAction.raise .dimensionMismatch)
  /-- ADD_FRAME of a frame. -/
  | addsFrame (hi : i = .addFrame) (hl : s.lifecycle = .started) (hg : s.geomSet = true) :
      CommandEnd i s s.framePipeline.frameComplete.complete
  /-- FINISH closes the session. -/
  | finishes (hi : i = .finish) (hl : s.lifecycle = .started) :
      CommandEnd i s (State.complete { s.append gifTrailer with lifecycle := .finished })
  /-- RESET_SESSION. -/
  | resets (hi : i = .resetSession) : CommandEnd i s s.sessionReset.complete

/-- A setting command that writes CFG, GEOM_SET and COMMENT alone ends as `CommandEnd` says. -/
theorem applySetting_commandEnd {i : Instr} {inRange : Bool} {write : State → State} {t : State} (hi : i.isSetting = true)
    (hw : write s = { s with cfg := (write s).cfg, geomSet := (write s).geomSet, comment := (write s).comment })
    (h : s.applySetting inRange write = .next t) : CommandEnd i s t := by
  have hne : i ≠ .resetSession := by rintro rfl; cases hi
  rcases applySetting_cases s h with ⟨-, -, -, -, rfl⟩ | ⟨-, rfl⟩ | ⟨-, rfl⟩
  · rw [hw]; exact .sets _ _ _ hi
  · exact .raises _ hne (.inr (.inl rfl))
  · exact .raises _ hne (.inl rfl)

/-- Everything a command can do. -/
theorem exec_commandEnd {i : Instr} {s t : State} (h : exec i s = .next t) : CommandEnd i s t := by
  cases i with
  | nop => cases h; exact .completes (.inl rfl)
  | configure | setQuality | setDelay | setFrameRate | setRepeat | setDisposal | setComment =>
    simp only [exec, execConfigure, execSetQuality, execSetDelay, execSetFrameRate, execSetRepeat, execSetDisposal,
      execSetComment] at h
    exact applySetting_commandEnd s rfl rfl h
  | setTransparent =>
    rw [exec_setTransparent, execSetTransparent] at h
    exact applySetting_commandEnd s rfl (by dsimp only; split <;> rfl) h
  | start =>
    rcases execStart_cases s h with ⟨-, hl, rfl⟩ | ⟨-, -, rfl⟩ | ⟨-, rfl⟩
    · exact .starts rfl hl
    · exact .completes (.inr rfl)
    · exact .raises _ nofun (.inr (.inl rfl))
  | addFrame =>
    rcases execAddFrame_cases s h with ⟨-, rfl⟩ | ⟨-, -, -, rfl⟩ | ⟨-, -, -, -, rfl⟩ | ⟨-, hl, -, -, -, rfl⟩ |
      ⟨-, hl, -, hg, -, rfl⟩
    · exact .raises _ nofun (.inr (.inl rfl))
    · exact .raises _ nofun (.inr (.inr rfl))
    · exact .raises _ nofun (.inl rfl)
    · exact .mismatches rfl hl
    · exact .addsFrame rfl hl hg
  | finish =>
    rcases execFinish_cases s h with ⟨-, hl, rfl⟩ | ⟨-, rfl⟩
    · exact .finishes rfl hl
    · exact .raises _ nofun (.inr (.inl rfl))
  | resetSession => cases h; exact .resets rfl

/-! ### Every step keeps the legal states -/

variable {s}

/-- RESULT and ERRCODE agree after `complete`; the legal states speak of nothing else it writes. -/
theorem Inv.complete (hs : Inv s) : Inv s.complete :=
  { hs with
    reportAgrees := by simp
    neverFatal := ⟨hs.neverFatal.1, nofun, nofun⟩ }

/-- A legal state after an error that some command raises. -/
theorem Inv.raise (hs : Inv s) {e : ErrorCode} (h0 : e ≠ .none) (h2 : e ≠ .quantizerInitError)
    (h3 : e ≠ .compressorInitError) : Inv (s.raise e) :=
  { hs with
    reportAgrees := by simp [h0]
    neverFatal := ⟨hs.neverFatal.1, h2, h3⟩ }

/-- The session's registers at their reset values are legal, whatever the session was: what counts is the parameters and the
memories, which SessionReset does not touch. -/
theorem inv_sessionReset (hp : s.prm.wellFormed = true) (hc : s.mem.wf ∧ s.comment.wf)
    (hm : ∀ c ∈ s.mem, regionOf s.prm c.1 = some .cmtbuf ∨ regionOf s.prm c.1 = some .pixmem)
    (hk : ∀ c ∈ s.comment, c.1 < 255) : Inv s.sessionReset where
  prmLegal := hp
  memCanonical := hc
  memMapped := hm
  commentMapped := hk
  commentWritten := by intro k h; simp [Settings.initial] at h
  outFits := Nat.zero_le _
  unconfiguredEmpty _ := ⟨rfl, rfl, rfl⟩
  signatureFirst h := absurd rfl h
  trailerLast := nofun
  overflowFull := nofun
  geometryLegal := ⟨rfl, rfl⟩
  lockedGeometry := nofun
  qualityLegal := by rw [sessionReset_cfg]; decide
  repeatLegal := by rw [sessionReset_cfg]; decide
  transparentLegal _ := rfl
  reportAgrees := by simp
  neverFatal := ⟨rfl, nofun, nofun⟩

/-- Power-on reset empties the memories beside the session's registers. -/
theorem Inv.powerOn (hs : Inv s) : Inv s.powerOn :=
  let cleared : State := { s with mem := [], comment := [] }
  have hr : Inv cleared.sessionReset := inv_sessionReset hs.prmLegal ⟨.nil, .nil⟩ nofun nofun
  { hr with }

/-- The parameters' ranges, written out. -/
theorem prm_bounds (h : s.prm.wellFormed = true) : s.prm.maxPixels ≤ 2 ^ 28 ∧ 32 ≤ s.prm.outCap := by
  obtain ⟨-, hm, ho, -⟩ := of_decide_eq_true h
  exact ⟨hm, ho⟩

/-! #### Appending -/

/-- After bytes are appended, OVF still means a full and invalid OUT. -/
theorem Inv.appendSeq_overflowFull (hs : Inv s) (bs : List Byte) (h : (s.appendSeq bs).ovf = true) :
    (s.appendSeq bs).bufInvalid = true ∧ (s.appendSeq bs).out.length = s.prm.outCap := by
  have hfit := hs.outFits
  rcases Nat.lt_or_ge (s.prm.outCap - s.out.length) bs.length with hd | hd
  · rw [appendSeq_dropped s bs hd]
    exact ⟨rfl, by simp; omega⟩
  · rw [appendSeq_stored s bs hd] at h ⊢
    obtain ⟨hb, hfull⟩ := hs.overflowFull h
    exact ⟨hb, by simp; omega⟩

/-- In a started session any bytes may be appended. -/
theorem Inv.appendSeq (hs : Inv s) (hl : s.lifecycle = .started) (bs : List Byte) : Inv (s.appendSeq bs) := by
  rw [appendSeq_frame]
  exact { hs with
    outFits := by simpa using appendSeq_fits s bs hs.outFits
    unconfiguredEmpty := fun h => by simp [hl] at h
    signatureFirst := fun h => by
      obtain ⟨added, -, ho⟩ := appendSeq_out s bs
      simp only [ho]
      exact (hs.signatureFirst h).trans (List.prefix_append _ _)
    trailerLast := fun h => by simp [hl] at h
    overflowFull := hs.appendSeq_overflowFull bs }

/-- Another value of the datapath state makes no difference: no legal state is told by it. -/
theorem Inv.withDp (hs : Inv s) (d : DatapathContents) : Inv { s with dp := d } := { hs with }

/-- The whole frame pipeline only appends. -/
theorem Inv.framePipeline (hs : Inv s) (hl : s.lifecycle = .started) : Inv s.framePipeline := by
  have hd : Inv s.frameDatapath := by rw [frameDatapath_eq]; exact hs.withDp _
  rw [framePipeline_eq]
  exact ((hd.appendSeq (by simpa using hl) _).withDp _).appendSeq (by simpa using hl) _

/-- A completed frame locks a session whose geometry is set. -/
theorem Inv.frameComplete (hs : Inv s) (hl : s.lifecycle = .started) (hg : s.geomSet = true) : Inv s.frameComplete :=
  { hs with
    unconfiguredEmpty := fun h => by simp [hl] at h
    lockedGeometry := fun _ => hg }

/-- A wrong length leaves a started session legal, with its OUT invalid. -/
theorem Inv.dimensionMismatchAction (hs : Inv s) (hl : s.lifecycle = .started) : Inv s.dimensionMismatchAction :=
  have ha := hs.appendSeq hl (Config.dmTail s.draws)
  { ha with
    unconfiguredEmpty := fun h => by simp [State.dimensionMismatchAction, hl] at h
    overflowFull := fun h => ⟨rfl, (ha.overflowFull h).2⟩ }

/-- START in a legal UNCONFIGURED state finds room for the signature. -/
theorem Inv.start (hs : Inv s) (hl : s.lifecycle = .unconfigured) :
    Inv { s.appendSeq gifSignature with lifecycle := .started } := by
  obtain ⟨hout, -, -⟩ := hs.unconfiguredEmpty hl
  obtain ⟨-, hcap⟩ := prm_bounds hs.prmLegal
  have hlen : gifSignature.length = 6 := rfl
  have hovf : s.ovf ≠ true := fun h => by
    have hfull := (hs.overflowFull h).2
    rw [hout, List.length_nil] at hfull
    omega
  rw [appendSeq_stored s gifSignature (by rw [hout, hlen, List.length_nil]; omega), hout, List.nil_append]
  exact { hs with
    outFits := by show gifSignature.length ≤ s.prm.outCap; omega
    unconfiguredEmpty := nofun
    signatureFirst := fun _ => List.prefix_refl _
    trailerLast := nofun
    overflowFull := fun h => absurd h hovf }

/-- FINISH leaves the trailer last, unless it found OUT full. -/
theorem Inv.finish (hs : Inv s) (hl : s.lifecycle = .started) :
    Inv { s.append gifTrailer with lifecycle := .finished } := by
  have ha : Inv (s.append gifTrailer) := by rw [append_eq_appendSeq]; exact hs.appendSeq hl _
  exact { ha with
    unconfiguredEmpty := nofun
    signatureFirst := fun _ => ha.signatureFirst (by simp [hl])
    trailerLast := fun _ h => by
      rcases Nat.lt_or_ge s.out.length s.prm.outCap with hroom | hfull
      · rw [append_stored s gifTrailer hroom]; simp
      · rw [append_dropped s gifTrailer hfull] at h; cases h }

/-! #### The setting commands -/

/-- A setting command keeps the legal states when its write does, for operands in range and before the lock. -/
theorem Inv.applySetting (hs : Inv s) {inRange : Bool} {write : State → State} {t : State}
    (hw : inRange = true → Inv (write s)) (h : s.applySetting inRange write = .next t) : Inv t := by
  rcases applySetting_cases s h with ⟨-, -, -, hr, rfl⟩ | ⟨-, rfl⟩ | ⟨-, rfl⟩
  · exact (hw hr).complete
  · exact hs.raise nofun nofun nofun
  · exact hs.raise nofun nofun nofun

/-- CONFIGURE stores a geometry in range. -/
theorem Inv.of_configure (hs : Inv s) {t : State} (h : execConfigure s = .next t) : Inv t := by
  rw [execConfigure] at h
  refine hs.applySetting (fun hr => ?_) h
  obtain ⟨hw1, hw, hh1, hh, hp⟩ := of_decide_eq_true hr
  exact { hs with
    geometryLegal := by
      simp only [if_true, BitVec.toNat_ofNat]
      rw [Nat.mod_eq_of_lt (by omega), Nat.mod_eq_of_lt (by omega)]
      exact ⟨hw1, hh1, hp⟩
    lockedGeometry := fun _ => rfl }

/-- SET_QUALITY stores a quality in range. -/
theorem Inv.of_setQuality (hs : Inv s) {t : State} (h : execSetQuality s = .next t) : Inv t :=
  hs.applySetting (h := h) fun hr => by
    have hq := of_decide_eq_true hr
    exact { hs with
      qualityLegal := by rw [BitVec.toNat_ofNat, Nat.mod_eq_of_lt (by omega)]; exact hq }

/-- SET_REPEAT stores ARG0 itself, which is in range as an s32. -/
theorem Inv.of_setRepeat (hs : Inv s) {t : State} (h : execSetRepeat s = .next t) : Inv t :=
  hs.applySetting (h := h) fun hr => by
    have hq := of_decide_eq_true hr
    rw [State.arg0S, s32_eq_toInt] at hq
    exact { hs with
      repeatLegal := by rw [State.arg0S, s32_eq_toInt, BitVec.ofInt_toInt]; exact hq }

/-- SET_TRANSPARENT clears the colour together with TRANSP_EN. -/
theorem Inv.of_setTransparent (hs : Inv s) {t : State} (h : execSetTransparent s = .next t) : Inv t :=
  hs.applySetting (h := h) fun _ => by
    split
    · exact { hs with transparentLegal := nofun }
    · exact { hs with transparentLegal := fun _ => rfl }

/-- SET_COMMENT writes every byte below the COMMENT_LEN it sets. -/
theorem Inv.of_setComment (hs : Inv s) {t : State} (h : execSetComment s = .next t) : Inv t :=
  hs.applySetting (h := h) fun hr => by
    have hn := of_decide_eq_true hr
    have hlen : ((List.range s.arg0U).map s.cmtRead).length = s.arg0U := by simp
    exact { hs with
      memCanonical := ⟨hs.memCanonical.1, Memory.storeBytes_wf _ hs.memCanonical.2 0⟩
      commentMapped := fun c hc => by
        rcases Memory.mem_storeBytes _ hc with ⟨-, hlt⟩ | hold
        · omega
        · exact hs.commentMapped c hold
      commentWritten := fun k hk => by
        rw [BitVec.toNat_ofNat, Nat.mod_eq_of_lt (by omega)] at hk
        have hat := Memory.lookup_storeBytes_at _ s.comment 0 (hlen.symm ▸ hk)
        rw [Nat.zero_add] at hat
        rw [hat]; rfl }

/-- Every setting command keeps the legal states. -/
theorem Inv.of_setting (hs : Inv s) {i : Instr} {t : State} (hi : i.isSetting = true) (h : exec i s = .next t) : Inv t := by
  cases i with
  | configure => exact hs.of_configure h
  | setQuality => exact hs.of_setQuality h
  | setDelay => rw [exec_setDelay, execSetDelay] at h; exact hs.applySetting (fun _ => { hs with }) h
  | setFrameRate => rw [exec_setFrameRate, execSetFrameRate] at h; exact hs.applySetting (fun _ => { hs with }) h
  | setRepeat => exact hs.of_setRepeat h
  | setDisposal => rw [exec_setDisposal, execSetDisposal] at h; exact hs.applySetting (fun _ => { hs with }) h
  | setTransparent => exact hs.of_setTransparent h
  | setComment => exact hs.of_setComment h
  | nop | start | addFrame | finish | resetSession => cases hi

/-- Every command keeps the legal states. -/
theorem Inv.of_exec (hs : Inv s) {i : Instr} {t : State} (h : exec i s = .next t) : Inv t := by
  cases exec_commandEnd h with
  | raises e _ he => rcases he with rfl | rfl | rfl <;> exact hs.raise nofun nofun nofun
  | completes => exact hs.complete
  | sets _ _ _ hi => exact hs.of_setting hi h
  | starts _ hl => exact (hs.start hl).complete
  | mismatches _ hl => exact (hs.dimensionMismatchAction hl).raise nofun nofun nofun
  | addsFrame _ hl hg =>
    have hp := hs.framePipeline hl
    exact (hp.frameComplete (by simpa [framePipeline_eq] using hl) (by simpa [framePipeline_eq] using hg)).complete
  | finishes _ hl => exact (hs.finish hl).complete
  | resets => exact (inv_sessionReset hs.prmLegal hs.memCanonical hs.memMapped hs.commentMapped).complete

/-! #### The host port -/

variable (s) in
/-- A bus read changes the count of draws alone. -/
theorem busRead_frame (off : Word) (n : Nat) : ∃ d, (s.busRead off n).2 = { s with draws := d } := by
  unfold State.busRead
  split
  · exact ⟨s.draws, rfl⟩
  · split
    · exact ⟨s.draws, rfl⟩
    · split
      · exact ⟨s.draws + 1, rfl⟩
      · exact ⟨s.draws, rfl⟩
  · exact ⟨s.draws, rfl⟩
  · exact ⟨s.draws, rfl⟩
  · obtain ⟨d, -, hd⟩ := readOutBytes_frame s n (off.toNat - outmemBase)
    exact ⟨d, hd⟩

/-- A bus read keeps the legal states, and so does taking its answer. -/
theorem Inv.busRead (hs : Inv s) (off : Word) (n : Nat) : Inv (answered (s.busRead off n)) := by
  obtain ⟨d, hd⟩ := busRead_frame s off n
  rw [answered, hd]
  exact { hs with }

/-- Every byte of an access to a window lies in that window, the windows being intervals. -/
theorem accessRegion_inside {p : Config.Params} {a n b : Nat} {r : Region} (h : accessRegion p a n = some r)
    (hr : r = .cmtbuf ∨ r = .pixmem) (hb : a ≤ b ∧ b < a + n) : regionOf p b = some r := by
  obtain ⟨-, -, hfirst, hlast⟩ := accessRegion_window h (by rintro rfl; simp at hr)
  rcases hr with rfl | rfl
  · rw [regionOf_cmtbuf] at *; omega
  · rw [regionOf_pixmem] at *; omega

/-- Bytes stored by an access to CMTBUF or PIXMEM keep the memory canonical and inside the two windows. -/
theorem Inv.storeBytes (hs : Inv s) {off : Word} {n : Nat} {r : Region} (v : Word)
    (h : accessRegion s.prm off.toNat n = some r) (hr : r = .cmtbuf ∨ r = .pixmem) :
    Inv { s with mem := s.mem.storeBytes off.toNat (leBytes n v) } :=
  { hs with
    memCanonical := ⟨Memory.storeBytes_wf _ hs.memCanonical.1 _, hs.memCanonical.2⟩
    memMapped := fun c hc => by
      rcases Memory.mem_storeBytes _ hc with hin | hold
      · rw [leBytes_length] at hin
        have hreg := accessRegion_inside h hr hin
        rcases hr with rfl | rfl
        · exact .inl hreg
        · exact .inr hreg
      · exact hs.memMapped c hold }

/-- A bus write keeps the legal states. -/
theorem Inv.busWrite (hs : Inv s) (off : Word) (n : Nat) (v : Word) : Inv (s.busWrite off n v).2 := by
  rcases busWrite_cases s off n v with h | ⟨-, -, h⟩ | ⟨-, -, h⟩ | ⟨-, -, h⟩ | ⟨-, hreg | hreg, h⟩ <;> rw [h]
  · exact hs
  · exact { hs with }
  · exact { hs with }
  · exact { hs with }
  · exact hs.storeBytes v hreg (.inl rfl)
  · exact hs.storeBytes v hreg (.inr rfl)

/-- What the host still has to do is no part of a legal state. -/
theorem Inv.withProgram (hs : Inv s) (p : List BusOp) : Inv { s with program := p } := { hs with }

/-- Every operation of the host or the platform keeps the legal states. -/
theorem Inv.serve (hs : Inv s) (op : BusOp) : Inv (s.serve op) := by
  cases op with
  | write off n v => exact { hs.busWrite off n v with }
  | read off n => exact hs.busRead off n
  | wait =>
    simp only [State.serve]
    split
    · exact (hs.busRead _ _).withProgram _
    · exact hs.busRead _ _
  | readOut =>
    simp only [State.serve]
    split
    · exact (hs.busRead _ _).withProgram _
    · exact hs.busRead _ _
    · exact hs.busRead _ _
  | expect v => exact { hs with }
  | powerOnReset => exact hs.powerOn

/-- Serving the host keeps the legal states. -/
theorem Inv.hostStep (hs : Inv s) : Inv s.hostStep := by
  rcases hostStep_cases s with ⟨-, h⟩ | ⟨op, rest, -, h⟩ <;> rw [h]
  · exact hs
  · exact (hs.withProgram rest).serve op

end

/-- Settles O35: what a step can do is run a command, report an illegal word, or serve the host, and each keeps `Inv`. -/
theorem stepKeepsLegalStates : Obligations.StepKeepsLegalStates := by
  intro s t hs h
  rcases step_cases h with ⟨w, i, -, -, hx⟩ | ⟨w, why, -, -, rfl⟩ | ⟨w, k, -, rfl⟩ | ⟨-, rfl⟩
  · exact hs.of_exec hx
  · exact hs.raise nofun nofun nofun
  · exact Inv.hostStep { hs with }
  · exact hs.hostStep

/-- Settles O34: reset is a SessionReset of empty memories. -/
theorem resetStateIsLegal : Obligations.ResetStateIsLegal :=
  inv_sessionReset (s := State.reset) (by decide) reset_memories_wf nofun nofun

/-! ### The quantizer writes all it reads, but NETINDEX -/

/-- The same quantizer state with another NETINDEX, the one array that training neither reads nor writes. -/
def Quant.withNetindex (l : List Byte) (q : Quant) : Quant := { q with netindex := l }

/-- Training on one sample does not look at NETINDEX. -/
theorem nqTrainSample_withNetindex (x : Colour) (l : List Byte) (q : Quant) :
    nqTrainSample x (q.withNetindex l) = (nqTrainSample x q).withNetindex l := by
  simp only [nqTrainSample, apply_ite (Quant.withNetindex l)]
  rfl

/-- Nor does a turn of the loop. -/
theorem nqLearnStep_withNetindex (samples : List Byte) (len : Nat) (l : List Byte) (q : Quant) :
    nqLearnStep samples len (q.withNetindex l) = (nqLearnStep samples len q).withNetindex l := by
  simp only [nqLearnStep, nqTrainSample_withNetindex, apply_ite (Quant.withNetindex l)]
  rfl

/-- Nor does the loop. -/
theorem nqLearnLoop_withNetindex (samples : List Byte) (len n : Nat) (l : List Byte) (q : Quant) :
    nqLearnLoop samples len n (q.withNetindex l) = (nqLearnLoop samples len n q).withNetindex l := by
  induction n generalizing q with
  | zero => rfl
  | succ n ih => rw [nqLearnLoop, nqLearnStep_withNetindex, ih, nqLearnLoop]

/-- Where RAD covers the whole array, the new RADPOWER is made of ALPHA and RAD alone. -/
theorem nqSetRadpower_radpower_congr {q r : Quant} (ha : q.alpha = r.alpha) (hr : q.rad = r.rad)
    (hfull : Config.initRad ≤ q.rad) : (nqSetRadpower q).radpower = (nqSetRadpower r).radpower := by
  simp only [nqSetRadpower]
  refine List.map_congr_left fun i hi => ?_
  have hlt : i < q.rad := Nat.lt_of_lt_of_le (List.mem_range.mp hi) hfull
  rw [← hr, ← ha, if_pos hlt, if_pos hlt]

/-- RAD is 32 when training starts, so the setup computes every entry of RADPOWER. -/
theorem nqLearnSetup_radpower (len quality : Nat) (q r : Quant) :
    (nqLearnSetup len quality q).radpower = (nqLearnSetup len quality r).radpower :=
  nqSetRadpower_radpower_congr rfl rfl (by simp only; decide)

/-- Initialisation and setup write every register of the quantizer but PIX and I, which NQ_Learn writes, and NETINDEX. -/
theorem nqLearn_start_eq (len quality : Nat) (q r : Quant) :
    { nqLearnSetup len quality (nqInit q) with pix := 0, i := 0 }
      = Quant.withNetindex q.netindex { nqLearnSetup len quality (nqInit r) with pix := 0, i := 0 } := by
  have h := nqLearnSetup_radpower len quality (nqInit q) (nqInit r)
  dsimp only
  rw [h]
  rfl

/-- A frame's training gives the same from every quantizer state, but for NETINDEX. -/
theorem nqTrained_eq_withNetindex (samples : List Byte) (quality : Nat) (q r : Quant) :
    nqTrained samples quality q = (nqTrained samples quality r).withNetindex q.netindex := by
  unfold nqTrained nqLearn
  rw [nqLearn_start_eq _ quality q r, nqLearnLoop_withNetindex]
  rfl

/-! ### The compressor writes all it reads -/

/-- `LZW_Init` and the start of `LZW_Encode` write every LZW register. -/
theorem lzwEncode_eq (limit : Nat) (idx : List Byte) (l m : Lzw) : lzwEncode limit idx l = lzwEncode limit idx m := rfl

/-! ### A frame's datapath state as a function of its pixels and settings -/

/-- The datapath state of a frame before its image data: samples, palette, indices and TIDX as SampleFrame, Quantize, IndexFrame
and TransparentIndex write them, from the quantizer state `q` they find; the LZW state is the one found. -/
def frameValues (samples : List Byte) (c : Settings) (q : Quant) (l : Lzw) : Datapath :=
  let trained := nqTrained samples c.quality.toNat q
  let built := nqIndexBuild trained
  { samples := samples
    indices := indexSamples built samples
    palette := nqPalette trained.net
    tidx := if c.transpEn then nqNearest built (redOf c.transpRgb) (greenOf c.transpRgb) (blueOf c.transpRgb) else 0
    quant := built
    lzw := l }

/-- They do not depend on the quantizer state found, since NQ_IndexBuild writes NETINDEX anew. -/
theorem frameValues_quant_eq (samples : List Byte) (c : Settings) (q r : Quant) (l : Lzw) :
    frameValues samples c q l = frameValues samples c r l := by
  unfold frameValues
  rw [nqTrained_eq_withNetindex samples c.quality.toNat q r]
  rfl

section
variable (s : State)

/-- What `frameDatapath` writes. -/
theorem frameDatapath_eq_frameValues : s.frameDatapath
    = s.setDatapath (frameValues ((List.range s.cfg.pixels).flatMap s.pixelSamples) s.cfg s.datapath.quant s.datapath.lzw) :=
  rfl

/-! ### The same next state from every datapath state -/

/-- Appending leaves the datapath state as it is. -/
theorem appendSeq_with_dp (d : DatapathContents) (bs : List Byte) :
    State.appendSeq { s with dp := d } bs = { s.appendSeq bs with dp := d } := by
  unfold State.appendSeq
  dsimp only
  split <;> rfl

/-- The Image Data block does not depend on the LZW state found. -/
theorem imageData_lzw_eq (d : Datapath) (l : Lzw) :
    (s.setDatapath { d with lzw := l }).imageData = (s.setDatapath d).imageData := by
  unfold State.imageData
  rw [lzwEncode_eq _ _ _ d.lzw]
  rfl

/-- A frame is the same from every datapath state. -/
theorem framePipeline_with_dp (d : DatapathContents) : State.framePipeline { s with dp := d } = s.framePipeline := by
  rw [framePipeline_eq, framePipeline_eq, frameDatapath_eq_frameValues, frameDatapath_eq_frameValues]
  rw [frameValues_quant_eq _ _ _ s.datapath.quant]
  simp only [State.setDatapath, appendSeq_with_dp]
  exact imageData_lzw_eq _ (frameValues _ _ _ _) _

/-- No command reads the datapath state it finds: the setting commands mention it nowhere, and the rest is AppendSeq and the
frame. -/
theorem exec_with_dp (i : Instr) (d : DatapathContents) : exec i { s with dp := d } = exec i s := by
  cases i with
  | nop => rfl
  | configure | setQuality | setDelay | setFrameRate | setRepeat | setDisposal | setComment => rfl
  | setTransparent =>
    simp only [exec_setTransparent, execSetTransparent, State.applySetting, apply_ite State.complete]
    rfl
  | start =>
    simp only [exec_start, execStart, appendSeq_with_dp]
    rfl
  | addFrame =>
    simp only [exec_addFrame, execAddFrame, framePipeline_with_dp, State.dimensionMismatchAction, appendSeq_with_dp]
    rfl
  | finish =>
    simp only [exec_finish, execFinish, State.append]
    split
    · rfl
    · split <;> rfl
  | resetSession => rfl

end

/-- Settles O48: ADD_FRAME writes every datapath register before reading it, and no other command reads one. -/
theorem datapathNeverReadAcrossCommands : Obligations.DatapathNeverReadAcrossCommands :=
  fun i s d => exec_with_dp s i d

/-! ### What a command leaves unchanged, by its end -/

section
variable {s t : State} {i : Instr}

/-- No command writes an operand, a parameter, a memory of the host map or the host port, and every command ends. -/
theorem CommandEnd.hostSide (h : CommandEnd i s t) : t.arg0 = s.arg0 ∧ t.arg1 = s.arg1 ∧ t.prm = s.prm ∧ t.mem = s.mem
    ∧ t.epoch = s.epoch ∧ t.program = s.program ∧ t.response = s.response ∧ t.latencies = s.latencies
    ∧ t.expectOk = s.expectOk ∧ t.executing = none := by
  cases h with
  | raises | completes | sets | resets => exact ⟨rfl, rfl, rfl, rfl, rfl, rfl, rfl, rfl, rfl, rfl⟩
  | starts | finishes => simp
  | mismatches => simp [State.dimensionMismatchAction]
  | addsFrame => simp [framePipeline_eq]

/-- BUF_INVALID, OVF and LOCKED outlive every command but RESET_SESSION, and FATAL does not change. -/
theorem CommandEnd.sticky (h : CommandEnd i s t) (hi : i ≠ .resetSession) :
    (s.bufInvalid = true → t.bufInvalid = true) ∧ (s.ovf = true → t.ovf = true) ∧ t.fatal = s.fatal
      ∧ (s.locked = true → t.locked = true) := by
  cases h with
  | raises | completes | sets => exact ⟨id, id, rfl, id⟩
  | starts =>
    exact ⟨appendSeq_keeps_bufInvalid s gifSignature, appendSeq_keeps_ovf s gifSignature, by simp, by simp⟩
  | mismatches =>
    exact ⟨fun _ => rfl, appendSeq_keeps_ovf s _, by simp [State.dimensionMismatchAction],
      by simp [State.dimensionMismatchAction]⟩
  | addsFrame =>
    exact ⟨by simpa using framePipeline_keeps_bufInvalid s, by simpa using framePipeline_keeps_ovf s,
      by simp [framePipeline_eq], fun _ => rfl⟩
  | finishes =>
    rw [append_eq_appendSeq]
    exact ⟨appendSeq_keeps_bufInvalid s [gifTrailer], appendSeq_keeps_ovf s [gifTrailer], by simp, by simp⟩
  | resets => contradiction

end

/-- Settles O23, from what each end of a command leaves unchanged; a byte of the map depends on `mem` and `epoch` alone. -/
theorem commandsNeverWriteHostSide : Obligations.CommandsNeverWriteHostSide := by
  intro i s t h
  obtain ⟨h0, h1, hp, hm, he, hprog, hresp, hlat, hexp, hexec⟩ := (exec_commandEnd h).hostSide
  exact ⟨h0, h1, hp, byteAt_congr hm he, hprog, hresp, hlat, hexp, hexec⟩

/-- Settles O24: every end of a command but the three named ones keeps STATE. -/
theorem onlyLifecycleCommandsChangeState : Obligations.OnlyLifecycleCommandsChangeState := by
  intro i s t h hne
  cases exec_commandEnd h with
  | raises | completes | sets => exact absurd rfl hne
  | starts hi hl => exact .inl ⟨hi, hl, rfl⟩
  | mismatches => simp [State.dimensionMismatchAction] at hne
  | addsFrame => simp [framePipeline_eq] at hne
  | finishes hi hl => exact .inr (.inl ⟨hi, hl, rfl⟩)
  | resets hi => exact .inr (.inr ⟨hi, rfl⟩)

/-- Settles O25: appending sets the bits and never clears them, and SessionReset clears all four. -/
theorem stickyBitsClearedOnlyByReset : Obligations.StickyBitsClearedOnlyByReset := by
  intro i s t h
  refine ⟨(exec_commandEnd h).sticky, ?_⟩
  rintro rfl
  cases h
  exact ⟨rfl, rfl, rfl, rfl⟩

/-- Settles O31: FrameComplete alone counts, and it stands on the one path of ADD_FRAME that ends with RESULT = 1. -/
theorem frameCountCountsCompletedFrames : Obligations.FrameCountCountsCompletedFrames := by
  intro i s t h
  cases exec_commandEnd h with
  | raises _ hi => exact ⟨fun h => absurd h hi, fun _ => by simp⟩
  | completes hi => rcases hi with rfl | rfl <;> exact ⟨nofun, fun _ => rfl⟩
  | sets _ _ _ hi =>
    have hadd : i ≠ .addFrame := by rintro rfl; cases hi
    have hreset : i ≠ .resetSession := by rintro rfl; cases hi
    exact ⟨fun h => absurd h hreset, fun _ => by simp [hadd]⟩
  | starts hi => subst hi; exact ⟨nofun, fun _ => by simp⟩
  | mismatches hi => subst hi; exact ⟨nofun, fun _ => by simp [State.dimensionMismatchAction]⟩
  | addsFrame hi => subst hi; exact ⟨nofun, fun _ => by simp [framePipeline_eq, BitVec.toNat_add]⟩
  | finishes hi => subst hi; exact ⟨nofun, fun _ => by simp⟩
  | resets hi => exact ⟨fun _ => rfl, fun h => absurd hi h⟩

/-- Settles O4: the four cases of the sequencer. -/
theorem stepRunsCommandInFlight : Obligations.StepRunsCommandInFlight := by
  refine ⟨fun s w i hx hd => ?_, fun s w why hx hd => ?_, fun s w k hx => ?_, fun s hx => ?_⟩
  · simp only [step, sequencerStep, hx, runCommand, hd]
  · simp only [step, sequencerStep, hx, runCommand, hd]
    rfl
  · simp only [step, sequencerStep, hx]
  · simp only [step, sequencerStep, hx]

/-! ### The register block -/

section
variable (s : State)

/-- An aligned word access below 4 KiB goes to the register block. -/
theorem accessRegion_word (p : Config.Params) {a : Nat} (ha : a % 4 = 0) (hlt : a < 0x1000) :
    accessRegion p a 4 = some .registers := by
  simp only [accessRegion, (regionOf_registers p a).mpr hlt]
  simp [ha]

/-- A word read of a register gives its value, unless it is one of those drawn while BUSY = 1. -/
theorem busRead_register {off : Word} {r : Reg} (hr : regAt off.toNat = some r) (ha : off.toNat % 4 = 0)
    (hb : s.busy = false ∨ r.drawnWhileBusy = false) : (s.busRead off 4).1 = .data (s.regValue r) := by
  have hlt : off.toNat < 0x1000 := by
    by_contra hge
    rw [regAt_above (by omega)] at hr
    cases hr
  have hnd : (s.busy && r.drawnWhileBusy) = false := by rcases hb with h | h <;> simp [h]
  simp [State.busRead, accessRegion_word s.prm ha hlt, hr, hnd]

/-- A word write of any register but ARG0, ARG1 and CMD is refused. -/
theorem busWrite_readOnly {off : Word} (ha : off.toNat % 4 = 0) (hlt : off.toNat < 0x1000)
    (h0 : off ≠ 0x00C) (h1 : off ≠ 0x010) (hc : off ≠ 0x008) (v : Word) : s.busWrite off 4 v = (.busError, s) := by
  rcases busWrite_cases s off 4 v with h | ⟨-, ho, -⟩ | ⟨-, ho, -⟩ | ⟨-, ho, -⟩ | ⟨-, hreg, -⟩
  · exact h
  · exact absurd ho h0
  · exact absurd ho h1
  · exact absurd ho hc
  · rw [accessRegion_word s.prm ha hlt] at hreg
    simp at hreg

variable {s}

/-- While idle, a word write of ARG0 stores it. -/
theorem busWrite_arg0 (hb : s.busy = false) (v : Word) : s.busWrite 0x00C 4 v = (.accepted, { s with arg0 := v }) := by
  simp [State.busWrite, hb, accessRegion_word, regAt]

/-- While idle, a word write of ARG1 stores it. -/
theorem busWrite_arg1 (hb : s.busy = false) (v : Word) : s.busWrite 0x010 4 v = (.accepted, { s with arg1 := v }) := by
  simp [State.busWrite, hb, accessRegion_word, regAt]

/-- While idle, a word write of CMD starts a command. -/
theorem busWrite_cmd (hb : s.busy = false) (v : Word) : s.busWrite 0x008 4 v = (.accepted, s.startCommand v) := by
  simp [State.busWrite, hb, accessRegion_word, regAt]

variable (s) in
/-- Starting a command changes what is in flight alone. -/
theorem sameCore_startCommand (w : Word) : SameCore s (s.startCommand w) := by
  simp [SameCore]

variable (s) in
/-- STATUS.STATE stands in bits 3:2. -/
theorem statusWord_lifecycle : s.statusWord.extractLsb' 2 2 = lifecycleBits s.lifecycle := by
  simp (disch := decide) only [State.statusWord, BitVec.extractLsb'_append_eq_of_le]
  exact BitVec.extractLsb'_append_eq_right

variable (s) in
/-- The reserved bits of STATUS are zero. -/
theorem statusWord_reserved : s.statusWord.extractLsb' 9 23 = 0 := by
  simp (disch := decide) only [State.statusWord, BitVec.extractLsb'_append_eq_of_le]
  decide

variable (s) in
/-- The flags of STATUS stand at their bits. -/
theorem statusWord_flags : s.statusWord.getLsbD 0 = s.busy ∧ s.statusWord.getLsbD 1 = s.result
    ∧ s.statusWord.getLsbD 4 = s.geomSet ∧ s.statusWord.getLsbD 5 = s.locked ∧ s.statusWord.getLsbD 6 = s.bufInvalid
    ∧ s.statusWord.getLsbD 7 = s.fatal ∧ s.statusWord.getLsbD 8 = s.ovf := by
  simp only [State.statusWord, BitVec.getLsbD_append, BitVec.getLsbD_ofBool]
  simp

/-- CFG_TRANSP: the colour, the enable bit, the reserved bits. -/
theorem transpWord_fields (c : Settings) : c.transpWord.extractLsb' 0 24 = c.transpRgb ∧ c.transpWord.getLsbD 24 = c.transpEn
    ∧ c.transpWord.extractLsb' 25 7 = 0 := by
  refine ⟨BitVec.extractLsb'_append_eq_right, ?_, ?_⟩
  · simp only [Settings.transpWord, BitVec.getLsbD_append, BitVec.getLsbD_ofBool]
    simp
  · simp (disch := decide) only [Settings.transpWord, BitVec.extractLsb'_append_eq_of_le]
    decide

end

/-- Settles O39: the three writable registers by their accesses. -/
theorem operandAndCommandRegistersWork : Obligations.OperandAndCommandRegistersWork := by
  intro s v hb
  rw [busWrite_cmd hb v]
  exact ⟨busWrite_arg0 hb v, busWrite_arg1 hb v, busRead_register s (r := .arg0) rfl rfl (.inl hb),
    busRead_register s (r := .arg1) rfl rfl (.inl hb), rfl, rfl, sameCore_startCommand s v, ⟨_, rfl⟩,
    busRead_register s (r := .cmd) rfl rfl (.inl hb)⟩

/-- Settles O43: each read gives its register's value, whose fields are the parts of an append; each write is refused. -/
theorem statusAndConstantsReadAsLaidOut : Obligations.StatusAndConstantsReadAsLaidOut := by
  refine ⟨fun s => ?_, fun s => ?_, fun s hb => ?_, fun s v off hoff => ?_⟩
  · obtain ⟨hbusy, hres, hgeom, hlock, hinv, hfatal, hovf⟩ := statusWord_flags s
    refine ⟨hbusy, hres, ?_, hgeom, hlock, hinv, hfatal, hovf, statusWord_reserved s⟩
    rw [statusWord_lifecycle]
    cases s.lifecycle <;> rfl
  · exact ⟨busRead_register s (r := .id) rfl rfl (.inr rfl), busRead_register s (r := .version) rfl rfl (.inr rfl),
      busRead_register s (r := .status) rfl rfl (.inr rfl), busRead_register s (r := .prmMaxPixels) rfl rfl (.inr rfl),
      busRead_register s (r := .prmOutCap) rfl rfl (.inr rfl), busRead_register s (r := .prmSubblockMax) rfl rfl (.inr rfl)⟩
  · refine ⟨?_, busRead_register s (r := .outLen) rfl rfl (.inl hb), busRead_register s (r := .frameCount) rfl rfl (.inl hb),
      ⟨_, busRead_register s (r := .cfgGeom) rfl rfl (.inl hb), BitVec.extractLsb'_append_eq_right,
        BitVec.extractLsb'_append_eq_left⟩,
      ⟨_, busRead_register s (r := .cfgQuality) rfl rfl (.inl hb), BitVec.extractLsb'_append_eq_right,
        BitVec.extractLsb'_append_eq_left⟩,
      ⟨_, busRead_register s (r := .cfgDelay) rfl rfl (.inl hb), BitVec.extractLsb'_append_eq_right,
        BitVec.extractLsb'_append_eq_left⟩,
      busRead_register s (r := .cfgRepeat) rfl rfl (.inl hb),
      ⟨_, busRead_register s (r := .cfgDisposal) rfl rfl (.inl hb), BitVec.extractLsb'_append_eq_right,
        BitVec.extractLsb'_append_eq_left⟩,
      ⟨_, busRead_register s (r := .cfgTransp) rfl rfl (.inl hb), transpWord_fields s.cfg⟩,
      ⟨_, busRead_register s (r := .cfgCommentLen) rfl rfl (.inl hb), BitVec.extractLsb'_append_eq_right,
        BitVec.extractLsb'_append_eq_left⟩⟩
    · rw [busRead_register s (r := .errcode) rfl rfl (.inl hb), State.regValue, State.errcodeWord]
      cases s.errcode <;> rfl
  · have hplace : ∀ off ∈ ([0x000, 0x004, 0x014, 0x018, 0x01C, 0x020, 0x024, 0x028, 0x02C, 0x030, 0x034, 0x038, 0x03C,
        0x040, 0x044, 0x048] : List Word),
        off.toNat % 4 = 0 ∧ off.toNat < 0x1000 ∧ off ≠ 0x00C ∧ off ≠ 0x010 ∧ off ≠ 0x008 := by simp
    obtain ⟨ha, hlt, h0, h1, hc⟩ := hplace off hoff
    exact busWrite_readOnly s ha hlt h0 h1 hc v

end Sys2Proof.Machine
end

section
/-! PROOFS of the memory family (20_memory.md): the address map, what each bus access answers and leaves unchanged, the
little-endian forms, OUT as an append-only buffer, and the core while a command is in flight. -/

namespace Sys2Proof.Machine

/-! ### Append -/

/-- AppendSeq of a nonempty sequence appends its first byte, then the rest, in every state: where OUT is already full, both
sides drop every byte. -/
theorem appendSeq_cons (s : State) (b : Byte) (bs : List Byte) : s.appendSeq (b :: bs) = (s.append b).appendSeq bs := by
  rcases Nat.lt_or_ge s.out.length s.prm.outCap with h | h
  · rw [append_eq_appendSeq, appendSeq_appendSeq s [b] bs (Nat.le_of_lt h), List.singleton_append]
  · have hroom : s.prm.outCap - s.out.length = 0 := by omega
    rw [append_dropped s b h, appendSeq_dropped s (b :: bs) (by simp [hroom])]
    cases bs with
    | nil => simp [State.appendSeq, hroom]
    | cons c cs =>
      rw [appendSeq_dropped _ (c :: cs) (by simp [hroom])]
      simp [hroom]

/-- AppendSeq is Append of each byte, first to last. -/
theorem appendSeq_eq_foldl (s : State) (bs : List Byte) : s.appendSeq bs = bs.foldl State.append s := by
  induction bs generalizing s with
  | nil => simp [State.appendSeq]
  | cons b bs ih => rw [appendSeq_cons, ih, List.foldl_cons]

/-- Settles O33: the two cases of Append, and AppendSeq by induction on the sequence. -/
theorem appendSeqIsAppendOfEachByte : Obligations.AppendSeqIsAppendOfEachByte :=
  ⟨append_stored, append_dropped, appendSeq_eq_foldl⟩

/-! ### The address map -/

/-- An access to the register block is exactly an aligned word below 4 KiB. -/
theorem accessRegion_eq_registers {p : Config.Params} {a n : Nat} :
    accessRegion p a n = some .registers ↔ a < 0x1000 ∧ n = 4 ∧ a % 4 = 0 := by
  constructor
  · intro h
    obtain ⟨hn, ha, hlt⟩ := accessRegion_registers h
    exact ⟨hlt, hn, ha⟩
  · rintro ⟨hlt, rfl, ha⟩
    exact accessRegion_word p ha hlt

/-- An access to a window is exactly one of legal size and alignment whose first and last byte lie in that window. -/
theorem accessRegion_eq_window {p : Config.Params} {a n : Nat} {r : Region} (hr : r ≠ .registers) :
    accessRegion p a n = some r
      ↔ (n = 1 ∨ n = 2 ∨ n = 4) ∧ a % n = 0 ∧ regionOf p a = some r ∧ regionOf p (a + n - 1) = some r := by
  refine ⟨fun h => accessRegion_window h hr, fun ⟨hn, ha, hfirst, hlast⟩ => ?_⟩
  cases r with
  | registers => contradiction
  | cmtbuf | pixmem | outmem => simp [accessRegion, hfirst, hlast, hn, ha]

/-- Settles O37: a window being an interval, its first and last byte decide whether an access lies inside. -/
theorem accessMapIsExact : Obligations.AccessMapIsExact := by
  intro p a n hp
  obtain ⟨-, hpix, -⟩ := of_decide_eq_true hp
  refine ⟨accessRegion_eq_registers, ?_, ?_, ?_⟩
  · rw [accessRegion_eq_window (r := .cmtbuf) nofun, regionOf_cmtbuf, regionOf_cmtbuf]; omega
  · rw [accessRegion_eq_window (r := .pixmem) nofun, regionOf_pixmem, regionOf_pixmem]; omega
  · rw [accessRegion_eq_window (r := .outmem) nofun, regionOf_outmem hpix, regionOf_outmem hpix]; omega

/-- Of the aligned offsets of the register block, the reserved ones are those above PRM_SUBBLOCK_MAX. -/
theorem regAt_eq_none {a : Nat} (ha : a % 4 = 0) : regAt a = none ↔ 0x048 < a := by
  refine ⟨fun h => ?_, regAt_above⟩
  have hnamed : ∀ a < 0x049, a % 4 = 0 → regAt a ≠ none := by decide
  by_contra hle
  exact hnamed a (by omega) ha h

/-! ### Reads -/

/-- The reads that answer with a bus error: no region, or a reserved offset of the register block. -/
def ReadRefused (p : Config.Params) (a n : Nat) : Prop :=
  accessRegion p a n = none ∨ (accessRegion p a n = some .registers ∧ 0x048 < a)

section
variable (s : State) (off : Word) (n : Nat)

/-- Everything a read can do: be refused and leave the state, or answer data, changing at most the count of draws. -/
theorem busRead_cases :
    (ReadRefused s.prm off.toNat n ∧ s.busRead off n = (.busError, s))
      ∨ (¬ ReadRefused s.prm off.toNat n
          ∧ ∃ w d, s.draws ≤ d ∧ s.busRead off n = (.data w, { s with draws := d })) := by
  unfold State.busRead ReadRefused
  cases hreg : accessRegion s.prm off.toNat n with
  | none => exact .inl ⟨.inl rfl, rfl⟩
  | some r =>
    cases r with
    | registers =>
      have hnone := regAt_eq_none (accessRegion_registers hreg).2.1
      cases hr : regAt off.toNat with
      | none => exact .inl ⟨.inr ⟨rfl, hnone.mp hr⟩, rfl⟩
      | some r =>
        refine .inr ⟨by simp [← hnone, hr], ?_⟩
        dsimp only
        split
        · exact ⟨_, s.draws + 1, Nat.le_succ _, rfl⟩
        · exact ⟨_, s.draws, Nat.le_refl _, rfl⟩
    | cmtbuf | pixmem => exact .inr ⟨by simp, _, s.draws, Nat.le_refl _, rfl⟩
    | outmem =>
      obtain ⟨d, hle, hd⟩ := readOutBytes_frame s n (off.toNat - outmemBase)
      exact .inr ⟨by simp, _, d, hle, Prod.ext rfl hd⟩

/-- A read of CMTBUF or PIXMEM gives its bytes, little-endian. -/
theorem busRead_window
    (h : accessRegion s.prm off.toNat n = some .pixmem ∨ accessRegion s.prm off.toNat n = some .cmtbuf) :
    s.busRead off n = (.data (leWord ((List.range n).map fun i => s.byteAt (off.toNat + i))), s) := by
  rcases h with h | h <;> simp only [State.busRead, h]

/-- A read of OUTMEM gives the bytes from its own offset on, little-endian. -/
theorem busRead_outmem (h : accessRegion s.prm off.toNat n = some .outmem) :
    s.busRead off n = (.data (leWord (s.readOutBytes (off.toNat - outmemBase) n).1),
      (s.readOutBytes (off.toNat - outmemBase) n).2) := by
  simp only [State.busRead, h]

end

/-- Settles O42: a refused read leaves the state, an answered one its core. -/
theorem readsHaveNoSideEffect : Obligations.ReadsHaveNoSideEffect := by
  intro s off n
  rcases busRead_cases s off n with ⟨-, h⟩ | ⟨-, w, d, hd, h⟩ <;> rw [h]
  · exact ⟨s.draws, Nat.le_refl _, rfl⟩
  · exact ⟨d, hd, rfl⟩

/-! ### Writes -/

section
variable {s : State} (off : Word) (n : Nat) (v : Word)

/-- While a command is in flight every write is refused. -/
theorem busWrite_busy (hb : s.busy = true) : s.busWrite off n v = (.busError, s) := by
  simp [State.busWrite, hb]

/-- While idle, a write of CMTBUF or PIXMEM stores its bytes. -/
theorem busWrite_window (hb : s.busy = false)
    (h : accessRegion s.prm off.toNat n = some .pixmem ∨ accessRegion s.prm off.toNat n = some .cmtbuf) :
    s.busWrite off n v = (.accepted, { s with mem := s.mem.storeBytes off.toNat (leBytes n v) }) := by
  rcases h with h | h <;> simp [State.busWrite, hb, h]

variable (s) in
/-- A refused write leaves the state. -/
theorem busWrite_refused_state (h : (s.busWrite off n v).1 = .busError) : (s.busWrite off n v).2 = s := by
  rcases busWrite_cases s off n v with hw | ⟨-, -, hw⟩ | ⟨-, -, hw⟩ | ⟨-, -, hw⟩ | ⟨-, -, hw⟩ <;> simp [hw] at h ⊢

/-- The writes that are refused: while BUSY = 1, where there is no region, at OUTMEM, and at every register but CMD, ARG0 and
ARG1. -/
theorem busWrite_refused_iff :
    (s.busy = true ∨ accessRegion s.prm off.toNat n = none ∨ accessRegion s.prm off.toNat n = some .outmem
      ∨ (accessRegion s.prm off.toNat n = some .registers ∧ off ≠ 0x008 ∧ off ≠ 0x00C ∧ off ≠ 0x010))
      ↔ (s.busWrite off n v).1 = .busError := by
  cases hb : s.busy with
  | true => simp [busWrite_busy off n v hb]
  | false =>
    cases hreg : accessRegion s.prm off.toNat n with
    | none => simp [State.busWrite, hb, hreg]
    | some r =>
      cases r with
      | cmtbuf => simp [busWrite_window off n v hb (.inr hreg)]
      | pixmem => simp [busWrite_window off n v hb (.inl hreg)]
      | outmem => simp [State.busWrite, hb, hreg]
      | registers =>
        obtain ⟨rfl, ha, hlt⟩ := accessRegion_registers hreg
        by_cases hc : off = 0x008
        · subst hc; rw [busWrite_cmd hb]; simp
        by_cases h0 : off = 0x00C
        · subst h0; rw [busWrite_arg0 hb]; simp
        by_cases h1 : off = 0x010
        · subst h1; rw [busWrite_arg1 hb]; simp
        rw [busWrite_readOnly s ha hlt h0 h1 hc]
        exact iff_of_true (.inr (.inr (.inr ⟨rfl, hc, h0, h1⟩))) rfl

end

/-- Settles O38, from what a read and a write can do. -/
theorem refusedAccessChangesNothing : Obligations.RefusedAccessChangesNothing := by
  intro s off n v
  refine ⟨?_, busWrite_refused_state s off n v, busWrite_refused_iff off n v, ?_⟩
  · rcases busRead_cases s off n with ⟨-, h⟩ | ⟨-, w, d, -, h⟩ <;> simp [h]
  · show ReadRefused s.prm off.toNat n ↔ _
    rcases busRead_cases s off n with ⟨hr, h⟩ | ⟨hr, w, d, -, h⟩ <;> simp [h, hr]

/-! ### Little-endian forms -/

/-- A byte behind the others counts `256 ^ length`. -/
theorem leNat_concat (bs : List Byte) (b : Byte) : leNat (bs ++ [b]) = leNat bs + 256 ^ bs.length * b.toNat := by
  induction bs with
  | nil => simp [leNat]
  | cons c bs ih => simp only [List.cons_append, leNat, ih, List.length_cons]; ring

/-- The `n` bytes of a word are its low `8·n` bits. -/
theorem leNat_leBytes (n : Nat) (v : Word) : leNat (leBytes n v) = v.toNat % 2 ^ (8 * n) := by
  induction n with
  | zero => simp [leBytes, leNat, Nat.mod_one]
  | succ n ih =>
    have hlast : leBytes (n + 1) v = leBytes n v ++ [v.extractLsb' (8 * n) 8] := by simp [leBytes, List.range_succ]
    have hpow (m : Nat) : 2 ^ (8 * m) = 256 ^ m := Nat.pow_mul 2 8 m
    rw [hlast, leNat_concat, ih, leBytes_length, BitVec.extractLsb'_toNat, Nat.shiftRight_eq_div_pow, hpow, hpow,
      Nat.mod_pow_succ (b := 256)]

/-- Byte `i` of the number that bytes make is byte `i` of them. -/
theorem leNat_byte {bs : List Byte} {i : Nat} (h : i < bs.length) : leNat bs / 256 ^ i % 256 = bs[i].toNat := by
  induction bs generalizing i with
  | nil => simp at h
  | cons b bs ih =>
    have hb := b.isLt
    cases i with
    | zero => simp only [leNat, List.getElem_cons_zero]; omega
    | succ i =>
      have hdrop : leNat (b :: bs) / 256 = leNat bs := by simp only [leNat]; omega
      rw [Nat.pow_succ', ← Nat.div_div_eq_div_mul, hdrop]
      exact ih (by simpa using h)

/-- Up to four bytes make a word without loss. -/
theorem leWord_toNat {bs : List Byte} (h : bs.length ≤ 4) : (leWord bs).toNat = leNat bs := by
  have hlt : leNat bs < 256 ^ 4 := Nat.lt_of_lt_of_le (leNat_lt bs) (Nat.pow_le_pow_right (by decide) h)
  rw [leWord, BitVec.toNat_ofNat]
  exact Nat.mod_eq_of_lt hlt

/-- Bits `8i+7` to `8i` of the word that up to four bytes make are byte `i`. -/
theorem leWord_byte {bs : List Byte} (hlen : bs.length ≤ 4) {i : Nat} (h : i < bs.length) :
    (leWord bs).extractLsb' (8 * i) 8 = bs[i] := by
  apply BitVec.eq_of_toNat_eq
  rw [BitVec.extractLsb'_toNat, leWord_toNat hlen, Nat.shiftRight_eq_div_pow, Nat.pow_mul]
  exact leNat_byte h

/-! ### Reading the windows back -/

/-- The `n` bytes just stored at `a`, read back in order. -/
theorem map_byteAt_storeBytes (s : State) (a n : Nat) (v : Word) :
    ((List.range n).map fun i => State.byteAt { s with mem := s.mem.storeBytes a (leBytes n v) } (a + i))
      = leBytes n v := by
  refine List.map_congr_left fun i hi => ?_
  have hlt : i < (leBytes n v).length := by simpa using hi
  rw [byteAt_storeBytes_at s a _ hlt, leBytes_getElem]

/-- Settles O40: the bytes stored are those of the data, and a read puts the same bytes together again. -/
theorem windowWriteThenReadGivesData : Obligations.WindowWriteThenReadGivesData := by
  intro s off v n hb hreg
  refine ⟨_, busWrite_window off n v hb hreg, fun i hi => ?_, fun a ha => ?_, rfl, ?_⟩
  · rw [byteAt_storeBytes_at s off.toNat _ (by simpa using hi), leBytes_getElem]
  · exact byteAt_storeBytes_outside s _ (by simpa using ha)
  · have hread := busRead_window { s with mem := s.mem.storeBytes off.toNat (leBytes n v) } off n hreg
    rw [hread, map_byteAt_storeBytes, leWord, leNat_leBytes]

/-- While idle, the bytes read from OUTMEM below OUT_LEN are those of OUT: a draw taken for another byte changes neither OUT
nor BUSY. -/
theorem readOutBytes_getElem? {s : State} (hb : s.busy = false) {n k i : Nat} (hi : i < n) (hk : k + i < s.out.length) :
    (s.readOutBytes k n).1[i]? = s.out[k + i]? := by
  induction n generalizing s k i with
  | zero => omega
  | succ n ih =>
    rw [State.readOutBytes]
    cases i with
    | zero =>
      rw [Nat.add_zero] at hk
      rw [readOutByte_stored s hb hk]
      exact (List.getElem?_eq_getElem hk).symm
    | succ i =>
      obtain ⟨d, -, hd⟩ := readOutByte_frame s k
      have hrest := ih (s := { s with draws := d }) hb (k := k + 1) (i := i) (by omega) (by simp only; omega)
      rw [hd, List.getElem?_cons_succ, hrest, Nat.add_right_comm, Nat.add_assoc]

/-- While idle, a read of OUTMEM below OUT_LEN takes no draw. -/
theorem readOutBytes_state {s : State} (hb : s.busy = false) {n k : Nat} (h : k + n ≤ s.out.length) :
    (s.readOutBytes k n).2 = s := by
  induction n generalizing k with
  | zero => rfl
  | succ n ih =>
    rw [State.readOutBytes, readOutByte_stored s hb (by omega)]
    exact ih (by omega)

/-- Settles O41: the access lies below 2^32, so its offset in OUTMEM is `k`, and the word read is made of the bytes from
there. -/
theorem outputReadBackGivesOut : Obligations.OutputReadBackGivesOut := by
  intro s k n hb hp hreg
  obtain ⟨-, -, -, hfits⟩ := accessMapIsExact s.prm (0x80000000 + k) n hp
  obtain ⟨-, hend, hn, -⟩ := hfits.mp hreg
  obtain ⟨-, -, -, hcap, -⟩ := of_decide_eq_true hp
  have hoff : (BitVec.ofNat 32 (0x80000000 + k)).toNat = 0x80000000 + k := by
    rw [BitVec.toNat_ofNat, Nat.mod_eq_of_lt (by omega)]
  have hk : 0x80000000 + k - outmemBase = k := by unfold outmemBase; omega
  have hread := busRead_outmem s (BitVec.ofNat 32 (0x80000000 + k)) n (hoff.symm ▸ hreg)
  rw [hoff, hk] at hread
  have hlen := readOutBytes_length s n k
  refine ⟨_, _, hread, ?_, fun i hi h => ?_, readOutBytes_state hb⟩
  · have hlt := leNat_lt (s.readOutBytes k n).1
    rw [leWord_toNat (by omega), Nat.pow_mul]
    rwa [hlen] at hlt
  · rw [leWord_byte (by omega) (by omega)]
    have hbyte := readOutBytes_getElem? hb hi h
    rwa [List.getElem?_eq_getElem (by omega), List.getElem?_eq_getElem h, Option.some_inj] at hbyte

/-! ### Serving the host -/

section
variable (s : State)

/-- Serving an operation that is neither a write nor a power-on reset changes the host port's own fields alone. -/
theorem serve_cases (op : BusOp) :
    op = .powerOnReset ∨ (∃ off n v, op = .write off n v)
      ∨ ∃ d p r e, s.serve op = { s with draws := d, program := p, response := r, expectOk := e } := by
  cases op with
  | powerOnReset => exact .inl rfl
  | write off n v => exact .inr (.inl ⟨off, n, v, rfl⟩)
  | expect v => exact .inr (.inr ⟨_, _, _, _, rfl⟩)
  | read off n =>
    obtain ⟨d, hd⟩ := busRead_frame s off n
    exact .inr (.inr ⟨d, _, _, _, by rw [State.serve, answered, hd]⟩)
  | wait =>
    obtain ⟨d, hd⟩ := busRead_frame s 0x014 4
    simp only [State.serve, answered, hd]
    split
    · exact .inr (.inr ⟨_, _, _, _, rfl⟩)
    · exact .inr (.inr ⟨_, _, _, _, rfl⟩)
  | readOut =>
    obtain ⟨d, hd⟩ := busRead_frame s 0x01C 4
    simp only [State.serve, answered, hd]
    split
    · exact .inr (.inr ⟨_, _, _, _, rfl⟩)
    · exact .inr (.inr ⟨_, _, _, _, rfl⟩)
    · exact .inr (.inr ⟨_, _, _, _, rfl⟩)

/-- No bus write reaches OUT. -/
theorem busWrite_out (off : Word) (n : Nat) (v : Word) : (s.busWrite off n v).2.out = s.out := by
  rcases busWrite_cases s off n v with h | ⟨-, -, h⟩ | ⟨-, -, h⟩ | ⟨-, -, h⟩ | ⟨-, -, h⟩ <;> simp [h]

/-- Only a power-on reset among the host's operations changes OUT. -/
theorem serve_out {op : BusOp} (hop : op ≠ .powerOnReset) : (s.serve op).out = s.out := by
  rcases serve_cases s op with h | ⟨off, n, v, rfl⟩ | ⟨d, p, r, e, h⟩
  · contradiction
  · exact busWrite_out s off n v
  · rw [h]

/-- Serving the host keeps OUT, or serves the power-on reset that empties it. -/
theorem hostStep_out : s.hostStep.out = s.out ∨ (s.hostStep.out = [] ∧ s.program.head? = some .powerOnReset) := by
  rcases hostStep_cases s with ⟨-, h⟩ | ⟨op, rest, hp, h⟩ <;> rw [h]
  · exact .inl rfl
  · by_cases hop : op = .powerOnReset
    · subst hop; exact .inr ⟨rfl, by rw [hp]; rfl⟩
    · exact .inl (serve_out _ hop)

variable {s}

/-- While a command is in flight, no operation but a power-on reset changes the core or what is in flight. -/
theorem serve_busy (hb : s.busy = true) {op : BusOp} (hop : op ≠ .powerOnReset) :
    SameCore s (s.serve op) ∧ (s.serve op).executing = s.executing := by
  rcases serve_cases s op with h | ⟨off, n, v, rfl⟩ | ⟨d, p, r, e, h⟩
  · contradiction
  · simp [State.serve, busWrite_busy off n v hb, answered, SameCore]
  · simp [h, SameCore]

end

/-- Settles O44: what the step serves changes neither the core nor the word in flight, and BUSY = 1 refuses a write. -/
theorem nothingChangesWhileBusy : Obligations.NothingChangesWhileBusy := by
  intro s t w k hx hhead h
  obtain ⟨-, -, hserves, -⟩ := stepRunsCommandInFlight
  rw [hserves s w k hx] at h
  cases h
  rcases hostStep_cases { s with executing := some { word := w, remaining := k } } with ⟨hp, h⟩ | ⟨op, rest, hp, h⟩
  all_goals rw [h]; dsimp only at hp; rw [hp] at hhead ⊢
  · exact ⟨by simp [SameCore], rfl, nofun⟩
  · have hop : op ≠ .powerOnReset := by rintro rfl; exact hhead rfl
    obtain ⟨hsame, hexec⟩ := serve_busy
      (s := { s with executing := some { word := w, remaining := k }, program := rest }) rfl hop
    refine ⟨hsame, hexec, fun off n v hw => ?_⟩
    obtain rfl : op = .write off n v := Option.some.inj hw
    rw [State.serve, busWrite_busy off n v rfl]
    rfl

/-! ### OUT is append-only -/

section
variable {s t : State} {i : Instr}

variable (s) in
/-- AppendSeq keeps what is in OUT as its beginning. -/
theorem prefix_appendSeq (bs : List Byte) : s.out <+: (s.appendSeq bs).out := by
  obtain ⟨added, -, h⟩ := appendSeq_out s bs
  rw [h]
  exact List.prefix_append _ _

variable (s) in
/-- So does the Image Data block. -/
theorem prefix_imageData : s.out <+: s.imageData.out := prefix_appendSeq (s.setDatapath _) _

variable (s) in
/-- So does a frame. -/
theorem prefix_framePipeline : s.out <+: s.framePipeline.out := by
  have hheader := prefix_appendSeq s.frameDatapath (s.frameDatapath.frameHeader (!s.locked))
  rw [frameDatapath_out] at hheader
  exact hheader.trans (prefix_imageData _)

/-- Every command but RESET_SESSION keeps what is in OUT as its beginning. -/
theorem CommandEnd.prefix_out (h : CommandEnd i s t) (hi : i ≠ .resetSession) : s.out <+: t.out := by
  cases h with
  | raises | completes | sets => exact List.prefix_refl _
  | starts => simpa using prefix_appendSeq s gifSignature
  | mismatches => simpa [State.dimensionMismatchAction] using prefix_appendSeq s (Config.dmTail s.draws)
  | addsFrame => simpa using prefix_framePipeline s
  | finishes => simpa [append_eq_appendSeq] using prefix_appendSeq s [gifTrailer]
  | resets => contradiction

end

/-- An opcode selects the command it belongs to. -/
theorem opcode_of_instrOfOpcode {op : Byte} {i : Instr} (h : instrOfOpcode op = some i) : op = opcode i := by
  revert h
  unfold instrOfOpcode
  repeat' refine iteInduction (motive := fun found => found = some i → op = opcode i) (fun hop => ?_) (fun _ => ?_)
  all_goals rintro ⟨⟩
  all_goals exact hop

/-- A word that is a command is that command's own word. -/
theorem eq_encode_of_decode {w : Word} {i : Instr} (h : decode w = .command i) : w = encode i := by
  have hsplit : w = rsvField w ++ opcodeField w := by
    refine BitVec.eq_of_getLsbD_eq fun j hj => ?_
    simp only [rsvField, opcodeField, BitVec.getLsbD_append, BitVec.getLsbD_extractLsb']
    grind
  unfold decode at h
  split at h
  · cases h
  · rename_i hrsv
    split at h
    · rename_i hop
      cases h
      rw [hsplit, not_not.mp hrsv, opcode_of_instrOfOpcode hop]
      rfl
    · cases h

/-- Settles O32: commands append to OUT, the host's operations do not touch it, and the two resets empty it. -/
theorem outputIsAppendOnly : Obligations.OutputIsAppendOnly := by
  intro s t h
  rcases step_cases h with ⟨w, i, hx, hd, he⟩ | ⟨w, why, -, -, rfl⟩ | ⟨w, k, -, rfl⟩ | ⟨-, rfl⟩
  · by_cases hi : i = .resetSession
    · subst hi
      cases he
      exact .inr ⟨rfl, .inl (by rw [hx, eq_encode_of_decode hd]; rfl)⟩
    · exact .inl ((exec_commandEnd he).prefix_out hi)
  · exact .inl (List.prefix_refl _)
  · rcases hostStep_out { s with executing := some { word := w, remaining := k } } with ho | ⟨ho, hp⟩
    · exact .inl (by rw [ho])
    · exact .inr ⟨ho, .inr hp⟩
  · rcases hostStep_out s with ho | ⟨ho, hp⟩
    · exact .inl (by rw [ho])
    · exact .inr ⟨ho, .inr hp⟩

end Sys2Proof.Machine
end

section
/-! PROOFS of the encoding family (30_encoding.md): decode and encode agree, and a word outside the opcode map is only
reported. -/

namespace Sys2Proof.Machine

/-! ### Decode and encode -/

/-- The shape of a command's word holds for every command. -/
theorem encodingShape (i : Instr) : Laws.EncodingShape.Statement i := by
  open Laws.EncodingShape in
  cases i
  exacts [nop, configure, setQuality, setDelay, setFrameRate, setRepeat, setDisposal, setTransparent, setComment, start,
    addFrame, finish, resetSession]

/-- A word whose RSV is zero and whose OPCODE selects a command is that command. -/
theorem decode_command {w : Word} {i : Instr} (hrsv : rsvField w = 0) (hop : instrOfOpcode (opcodeField w) = some i) :
    decode w = .command i := by
  simp [decode, hrsv, hop]

/-- A word whose RSV is not zero is illegal. -/
theorem decode_reservedBits {w : Word} (hrsv : rsvField w ≠ 0) : decode w = .illegal .reservedBits :=
  if_pos hrsv

/-- A word whose RSV is zero and whose OPCODE selects nothing is illegal. -/
theorem decode_unassigned {w : Word} (hrsv : rsvField w = 0) (hop : instrOfOpcode (opcodeField w) = none) :
    decode w = .illegal .unassignedOpcode := by
  simp [decode, hrsv, hop]

/-- A command's own word decodes to it. -/
@[simp] theorem decode_encode (i : Instr) : decode (encode i) = .command i := by
  obtain ⟨hrsv, hfield, -, -, hop⟩ := encodingShape i
  exact decode_command hrsv (hfield ▸ hop)

/-- Settles O2: a word is its two fields, RSV is zero in a command's word, and each opcode belongs to one command. -/
theorem decodeAcceptsExactlyEncodings : Obligations.DecodeAcceptsExactlyEncodings := by
  intro w i
  constructor
  · exact eq_encode_of_decode
  · rintro rfl
    exact decode_encode i

/-- Settles O1: the thirteen words are those of `encode`; of the other three, two have a reserved bit set and one has an opcode
that selects nothing. -/
theorem commandWordsDecodeAsMapped : Obligations.CommandWordsDecodeAsMapped :=
  ⟨decode_encode .nop, decode_encode .configure, decode_encode .setQuality, decode_encode .setDelay,
    decode_encode .setFrameRate, decode_encode .setRepeat, decode_encode .setDisposal, decode_encode .setTransparent,
    decode_encode .setComment, decode_encode .start, decode_encode .addFrame, decode_encode .finish,
    decode_encode .resetSession, decode_unassigned rfl rfl, decode_reservedBits (by decide), decode_reservedBits (by decide)⟩

/-! ### Illegal words -/

/-- The three ranges of the opcode map (R93) hold every command's word. -/
theorem encode_toNat_range (i : Instr) :
    (encode i).toNat ≤ 0x08 ∨ (0x10 ≤ (encode i).toNat ∧ (encode i).toNat ≤ 0x12) ∨ (encode i).toNat = 0x1F := by
  cases i <;> decide

/-- A word outside the three ranges of the opcode map is illegal: a command's word lies in one of them. -/
theorem decode_illegal_of_range {w : Word} (h : 256 ≤ w.toNat ∨ (0x09 ≤ w.toNat ∧ w.toNat ≤ 0x0F)
    ∨ (0x13 ≤ w.toNat ∧ w.toNat ≤ 0x1E) ∨ (0x20 ≤ w.toNat ∧ w.toNat ≤ 0xFF)) : ∃ why, decode w = .illegal why := by
  cases hd : decode w with
  | illegal why => exact ⟨why, rfl⟩
  | command i =>
    rw [eq_encode_of_decode hd] at h
    have hrange := encode_toNat_range i
    omega

/-- ERRCODE reads 7 after an illegal word (R340, R347). -/
theorem errcodeWord_illegalCommand (s : State) : (raised .illegalCommand s).errcodeWord = 7 := by
  have hword : (0 : BitVec 28) ++ errorBits .illegalCommand = 7 := by decide
  exact hword

/-- Settles O3: the word is illegal, so the sequencer takes the illegal-command action; the report is read from its fields. -/
theorem illegalWordOnlyReports : Obligations.IllegalWordOnlyReports := by
  intro s w hx hw
  obtain ⟨why, hd⟩ := decode_illegal_of_range hw
  obtain ⟨-, hillegal, -⟩ := stepRunsCommandInFlight
  obtain ⟨-, hresult, -⟩ := statusWord_flags (raised .illegalCommand s)
  exact ⟨hillegal s w why hx hd, rfl, errcodeWord_illegalCommand s, hresult⟩

end Sys2Proof.Machine
end

section
/-! PROOFS of the sampler and indexer family (40_sampler_indexer.md): what a frame's samples and indices are, that the alpha
bytes reach no state, and what TransparentIndex writes. -/

namespace Sys2Proof.Machine

/-! ### The transparent index -/

/-- A byte field of a 24-bit colour, as the colour's number divided down to it. -/
theorem extractByte_eq_ofNat_div (rgb : BitVec 24) (n : Nat) :
    rgb.extractLsb' n 8 = BitVec.ofNat 8 (rgb.toNat / 2 ^ n) := by
  rw [BitVec.extractLsb', Nat.shiftRight_eq_div_pow]

/-- The channel bytes of a colour 0xRRGGBB (R43). -/
theorem rgb_channels_eq (rgb : BitVec 24) : redOf rgb = BitVec.ofNat 8 (rgb.toNat / 65536)
    ∧ greenOf rgb = BitVec.ofNat 8 (rgb.toNat / 256) ∧ blueOf rgb = BitVec.ofNat 8 rgb.toNat :=
  ⟨extractByte_eq_ofNat_div rgb 16, extractByte_eq_ofNat_div rgb 8, by
    rw [blueOf, extractByte_eq_ofNat_div, pow_zero, Nat.div_one]⟩

/-- Settles O49: TransparentIndex is one write of TIDX; the lookup's operands are the three channels of TRANSP_RGB. -/
theorem transparentIndexIsLookupOrZero : Obligations.TransparentIndexIsLookupOrZero := by
  intro s
  obtain ⟨hred, hgreen, hblue⟩ := rgb_channels_eq s.cfg.transpRgb
  refine ⟨_, rfl, fun hen => ?_, fun hdis => ?_⟩
  · rw [if_pos hen, hred, hgreen, hblue]
  · simp [hdis]

/-! ### Samples and indices, pixel by pixel -/

/-- In a concatenation of blocks of one length, item `j` of block `k` stands at `n * k + j`. -/
theorem getElem?_flatMap_of_length {α β : Type} {g : α → List β} {n : Nat} (hlen : ∀ a, (g a).length = n) (l : List α)
    (k : Nat) {j : Nat} (hj : j < n) : (l.flatMap g)[n * k + j]? = l[k]?.bind fun a => (g a)[j]? := by
  induction l generalizing k with
  | nil => rfl
  | cons a l ih =>
    cases k with
    | zero => simp [List.getElem?_append_left, hlen, hj]
    | succ k =>
      have hpos : n * (k + 1) + j = (g a).length + (n * k + j) := by rw [hlen]; ring
      rw [List.flatMap_cons, hpos, List.getElem?_append_right (Nat.le_add_right _ _), Nat.add_sub_cancel_left, ih]
      rfl

section
variable (s : State)

/-- The sample buffer that SampleFrame writes (R120). -/
theorem sampleFrame_samples : s.sampleFrame.datapath.samples = (List.range s.cfg.pixels).flatMap s.pixelSamples := rfl

/-- IndexFrame looks up one pixel's three samples per index (R123). -/
theorem indexSamples_pixelSamples (q : Quant) (ks : List Nat) : indexSamples q (ks.flatMap s.pixelSamples)
    = ks.map fun k => nqNearest q (s.pixRead (4 * k)) (s.pixRead (4 * k + 1)) (s.pixRead (4 * k + 2)) := by
  induction ks with
  | nil => rfl
  | cons k ks ih => rw [List.map_cons, ← ih]; rfl

/-- The indices that IndexFrame writes, looked up in the frame's sorted network (R123). -/
theorem indexFrame_indices : (s.sampleFrame.quantize.indexFrame).datapath.indices
    = (List.range s.cfg.pixels).map fun k =>
        nqNearest s.sampleFrame.quantize.datapath.quant (s.pixRead (4 * k)) (s.pixRead (4 * k + 1)) (s.pixRead (4 * k + 2)) :=
  indexSamples_pixelSamples s _ _

/-- S has three samples per pixel. -/
theorem sampleFrame_samples_length : s.sampleFrame.datapath.samples.length = 3 * s.cfg.pixels := by
  simp [sampleFrame_samples, State.pixelSamples, Nat.mul_comm]

/-- IDX has one entry per pixel. -/
theorem indexFrame_indices_length : (s.sampleFrame.quantize.indexFrame).datapath.indices.length = s.cfg.pixels := by
  rw [indexFrame_indices, List.length_map, List.length_range]

variable {s}

/-- Sample `j` of pixel `k` is that pixel's byte `j`. -/
theorem sampleFrame_samples_getElem? {k : Nat} (hk : k < s.cfg.pixels) {j : Nat} (hj : j < 3) :
    s.sampleFrame.datapath.samples[3 * k + j]? = some (s.pixRead (4 * k + j)) := by
  rw [sampleFrame_samples, getElem?_flatMap_of_length (g := s.pixelSamples) (fun _ => rfl) _ k hj, List.getElem?_range hk]
  obtain rfl | rfl | rfl : j = 0 ∨ j = 1 ∨ j = 2 := by omega
  all_goals rfl

/-- The index of pixel `k` is the lookup of its own colour bytes. -/
theorem indexFrame_indices_getElem? {k : Nat} (hk : k < s.cfg.pixels) :
    (s.sampleFrame.quantize.indexFrame).datapath.indices[k]?
      = some (nqNearest s.sampleFrame.quantize.datapath.quant (s.pixRead (4 * k)) (s.pixRead (4 * k + 1))
          (s.pixRead (4 * k + 2))) := by
  rw [indexFrame_indices, List.getElem?_map, List.getElem?_range hk]
  rfl

variable (s)

/-- The palette and the quantizer state of a frame are those of a training that starts from any quantizer state `q`. -/
theorem frameDatapath_trained (q : Quant) :
    let trained := nqTrained s.sampleFrame.datapath.samples s.cfg.quality.toNat q
    s.frameDatapath.datapath.palette = nqPalette trained.net ∧ s.frameDatapath.datapath.quant = nqIndexBuild trained := by
  rw [frameDatapath_eq_frameValues, frameValues_quant_eq _ _ _ q]
  exact ⟨rfl, rfl⟩

end

/-- Settles O46: S and IDX are one block and one entry per pixel, training does not depend on the quantizer state it starts
from, and each later step of the frame leaves what the steps before it wrote. -/
theorem samplesAndIndicesFollowPixels : Obligations.SamplesAndIndicesFollowPixels := by
  intro s
  refine ⟨⟨sampleFrame_samples_length s, indexFrame_indices_length s, fun k hk => ?_⟩, frameDatapath_trained s,
    rfl, rfl, rfl, rfl⟩
  exact ⟨sampleFrame_samples_getElem? hk (j := 0) (by decide), sampleFrame_samples_getElem? hk (j := 1) (by decide),
    sampleFrame_samples_getElem? hk (j := 2) (by decide), indexFrame_indices_getElem? hk⟩

/-! ### The alpha bytes reach no state -/

section
variable (s : State) (m : Memory)

/-- The memory `m` holds the same colour bytes as the core's own: it may differ in alpha bytes and outside PIXMEM. -/
def SameColours : Prop := ∀ k j, j < 3 → State.pixRead { s with mem := m } (4 * k + j) = s.pixRead (4 * k + j)

/-- Appending does not look at `mem`. -/
theorem appendSeq_with_mem (bs : List Byte) : State.appendSeq { s with mem := m } bs = { s.appendSeq bs with mem := m } := by
  unfold State.appendSeq
  dsimp only
  split <;> rfl

/-- Nor does the Image Data block. -/
theorem imageData_with_mem : State.imageData { s with mem := m } = { s.imageData with mem := m } :=
  appendSeq_with_mem (s.setDatapath _) m _

/-- Nor does the end of a completed frame. -/
theorem frameEnd_with_mem : (State.frameComplete { s with mem := m }).complete = { s.frameComplete.complete with mem := m } :=
  rfl

variable {s m}

/-- The same colours give the same samples. -/
theorem SameColours.pixelSamples_with_mem (h : SameColours s m) : State.pixelSamples { s with mem := m } = s.pixelSamples := by
  funext k
  have h0 : State.pixRead { s with mem := m } (4 * k) = s.pixRead (4 * k) := h k 0 (by decide)
  simp only [State.pixelSamples, h0, h k 1 (by decide), h k 2 (by decide)]

/-- So they give the same datapath state of the frame. -/
theorem SameColours.frameDatapath_with_mem (h : SameColours s m) :
    State.frameDatapath { s with mem := m } = { s.frameDatapath with mem := m } := by
  rw [frameDatapath_eq_frameValues, frameDatapath_eq_frameValues, h.pixelSamples_with_mem]
  rfl

/-- And the same bytes appended. -/
theorem SameColours.framePipeline_with_mem (h : SameColours s m) :
    State.framePipeline { s with mem := m } = { s.framePipeline with mem := m } := by
  rw [framePipeline_eq, h.frameDatapath_with_mem, appendSeq_with_mem, imageData_with_mem]
  rfl

end

/-- Settles O47: the checks of ADD_FRAME look at no memory, and a frame's bytes follow from its colours. -/
theorem alphaNeverMatters : Obligations.AlphaNeverMatters := by
  intro s t m hcolours hexec
  rw [exec_addFrame, execAddFrame, SameColours.framePipeline_with_mem hcolours, State.dimensionMismatchAction,
    appendSeq_with_mem]
  rw [exec_addFrame, execAddFrame] at hexec
  split at hexec
  next hstate => cases hexec; exact if_pos hstate
  next hstate =>
  refine (if_neg hstate).trans ?_
  split at hexec
  next hfmt => cases hexec; exact if_pos hfmt
  next hfmt =>
  refine (if_neg hfmt).trans ?_
  split at hexec
  next hgeom => cases hexec; exact if_pos hgeom
  next hgeom =>
  refine (if_neg hgeom).trans ?_
  split at hexec
  next hlen => cases hexec; exact if_pos hlen
  next hlen => cases hexec; exact (if_neg hlen).trans (congrArg _ (frameEnd_with_mem s.framePipeline m))

end Sys2Proof.Machine
end

section
/-! PROOFS of the quantizer family (41_quantizer.md): the bounds and the schedule of training, the contest and the two updates,
the sorted index, the palette, and the pruned lookup as a plain scan. -/

namespace Sys2Proof.Machine

/-! ### A scan that keeps the first least candidate, R152 and R162 -/

section
variable {α σ : Type} {key : α → Int} {dist : σ → Int} {found : α → σ} {offer : σ → α → σ}

/-- A candidate that is not nearer than the best so far is passed over. -/
theorem foldl_offer_eq_self (hoffer : ∀ s a, offer s a = if key a < dist s then found a else s) {l : List α} {s : σ}
    (h : ∀ a ∈ l, dist s ≤ key a) : l.foldl offer s = s := by
  induction l with
  | nil => rfl
  | cons a l ih =>
    rw [List.forall_mem_cons] at h
    rw [List.foldl_cons, hoffer, if_neg (Int.not_lt.mpr h.1), ih h.2]

/-- A scan that replaces the best so far only by a strictly nearer candidate ends at a candidate of least key, the first of them
in any order `before` in which the candidates are listed. -/
theorem foldl_offer_first_least (hoffer : ∀ s a, offer s a = if key a < dist s then found a else s)
    (hfound : ∀ a, dist (found a) = key a) {before : α → α → Prop} {l : List α} (hl : l.Pairwise before) {s : σ}
    (hnear : ∃ a ∈ l, key a < dist s) :
    ∃ a ∈ l, l.foldl offer s = found a ∧ ∀ b ∈ l, key a ≤ key b ∧ (key b = key a → b = a ∨ before a b) := by
  induction l generalizing s with
  | nil => exact absurd hnear (by simp)
  | cons c l ih =>
    obtain ⟨hc, hl⟩ := List.pairwise_cons.mp hl
    rw [List.foldl_cons, hoffer]
    by_cases hlater : ∃ a ∈ l, key a < dist (if key c < dist s then found c else s)
    · obtain ⟨a, ha, hend, hleast⟩ := ih hl hlater
      obtain ⟨b, hb, hbnear⟩ := hlater
      have hac : key a < key c := by
        have hab := (hleast b hb).1
        split at hbnear
        · rw [hfound] at hbnear; omega
        · omega
      exact ⟨a, List.mem_cons_of_mem c ha, hend,
        List.forall_mem_cons.mpr ⟨⟨hac.le, fun h => absurd h hac.ne'⟩, hleast⟩⟩
    · simp only [not_exists, not_and, Int.not_lt] at hlater
      rw [foldl_offer_eq_self hoffer hlater]
      have hcnear : key c < dist s := by
        by_contra hfar
        rw [if_neg hfar] at hlater
        obtain ⟨a, ha, hanear⟩ := hnear
        rcases List.mem_cons.mp ha with rfl | ha
        · exact hfar hanear
        · exact absurd (hlater a ha) (Int.not_le.mpr hanear)
      rw [if_pos hcnear] at hlater ⊢
      rw [hfound] at hlater
      exact ⟨c, List.mem_cons_self, rfl,
        List.forall_mem_cons.mpr ⟨⟨le_rfl, fun _ => .inl rfl⟩, fun b hb => ⟨hlater b hb, fun _ => .inr (hc b hb)⟩⟩⟩

end

/-! ### Initialisation, R142 -/

/-- The grey diagonal, with the closed forms of R142. -/
theorem initialNeuron_eq (i : Nat) :
    initialNeuron i = { c0 := (16 * i : Nat), c1 := (16 * i : Nat), c2 := (16 * i : Nat), idx := BitVec.ofNat 8 i } := by
  have hgrey : fdiv (i * 2 ^ (Config.netBiasShift + 8)) Config.netSize = 16 * i := by
    simp only [fdiv, Config.netBiasShift, Config.netSize]
    omega
  simp only [initialNeuron, hgrey, byteOfNat]

/-! ### Contest, R151 and R152 -/

/-- The absolute value of R151 and R161 is the library's. -/
theorem absInt_eq_natAbs (a : Int) : absInt a = a.natAbs := by
  unfold absInt
  split <;> omega

/-- The distance of the neuron at a position, as the statements write it. -/
theorem distAt_eq_neuronDist {net : List Neuron} {k : Nat} (hk : k < net.length) (x : Colour) :
    distAt net x k = neuronDist x net[k] := by
  simp only [distAt, List.getElem?_eq_getElem hk, neuronDist, absInt_eq_natAbs]

/-- The biased distance of the neuron at a position (R151). -/
def biasedAt (q : Quant) (x : Colour) (k : Nat) : Int := distAt q.net x k - q.bias.getD k 0 / 4096

/-- A winner's scan of `n` positions from `i` on, by the key `key`. -/
def winnerScan (key : Nat → Int) (i n : Nat) (w : Winner) : Winner := (List.range' i n).foldl (fun w k => w.offer (key k) k) w

/-- The one pass of R151 makes both scans. -/
theorem contestScan_eq_winnerScan {q : Quant} (hb : q.bias.length = q.net.length) (x : Colour) (n i : Nat)
    (hi : i + n = q.net.length) (plain biased : Winner) : contestScan x i (q.net.drop i) (q.bias.drop i) plain biased =
      (winnerScan (distAt q.net x) i n plain, winnerScan (biasedAt q x) i n biased) := by
  induction n generalizing i plain biased with
  | zero =>
    rw [Nat.add_zero] at hi
    rw [List.drop_eq_nil_of_le hi.ge]
    rfl
  | succ n ih =>
    have hnet : i < q.net.length := by omega
    have hbias : i < q.bias.length := by omega
    rw [List.drop_eq_getElem_cons hnet, List.drop_eq_getElem_cons hbias, contestScan, ih (i + 1) (by omega)]
    simp only [winnerScan, List.range'_succ, List.foldl_cons, biasedAt, distAt_eq_neuronDist hnet,
      List.getD_eq_getElem _ _ hbias]
    rfl

/-- A scan of all positions ends at the first one of least key, if the keys are below the bound it starts from (R152). -/
theorem winnerScan_first_least (key : Nat → Int) {n : Nat} (hn : 0 < n) (h : ∀ k < n, key k < 0x7FFFFFFF) :
    ∃ j < n, (winnerScan key 0 n Winner.start).pos = j ∧ (∀ k < n, key j ≤ key k) ∧ (∀ k < j, key j < key k) := by
  have hoffer (w : Winner) (k : Nat) : w.offer (key k) k = if key k < w.dist then ⟨key k, k⟩ else w := rfl
  have hnear : ∃ k ∈ List.range' 0 n, key k < Winner.start.dist := ⟨0, by simp [hn], h 0 hn⟩
  obtain ⟨j, hj, hend, hleast⟩ := foldl_offer_first_least hoffer (fun _ => rfl) (List.pairwise_lt_range' 1) hnear
  simp only [List.mem_range'_1, Nat.zero_le, true_and, Nat.zero_add] at hj hleast
  refine ⟨j, hj, congrArg Winner.pos hend, fun k hk => (hleast k hk).1, fun k hk => ?_⟩
  obtain ⟨hle, hties⟩ := hleast k (hk.trans hj)
  refine lt_of_le_of_ne hle fun heq => ?_
  rcases hties heq.symm with rfl | hlt <;> omega

/-- The position whose frequency a contest raises, bestpos of R151. -/
def plainWinner (x : Colour) (q : Quant) : Nat := (contestScan x 0 q.net q.bias Winner.start Winner.start).1.pos.toNat

/-- FREQ after a contest, entry by entry (R151). -/
theorem nqContest_freq_getElem? (x : Colour) (q : Quant) (k : Nat) : (nqContest x q).2.freq[k]?
    = q.freq[k]?.map fun f => f - f / 1024 + if k = plainWinner x q then 64 else 0 := by
  have hdecay (f : Int) : f - betaFreq f = f - f / 1024 := rfl
  have hfreq : (nqContest x q).2.freq = (q.freq.map fun f => f - betaFreq f).modify (plainWinner x q) (· + 64) := rfl
  rw [hfreq, List.getElem?_modify, List.getElem?_map]
  cases q.freq[k]? with
  | none => rfl
  | some f =>
    simp only [Option.map_some, Option.map_eq_map, hdecay, eq_comm (a := k)]
    split <;> simp

/-- BIAS after a contest, entry by entry (R151). -/
theorem nqContest_bias_getElem? (x : Colour) (q : Quant) (k : Nat) : (nqContest x q).2.bias[k]?
    = q.bias[k]?.bind fun b => q.freq[k]?.map fun f => b + f / 1024 * 1024 - if k = plainWinner x q then 65536 else 0 := by
  have hgain (b f : Int) : b + betaFreq f * 2 ^ Config.gammaShift = b + f / 1024 * 1024 := rfl
  have hbias : (nqContest x q).2.bias = (List.zipWith (fun b f => b + betaFreq f * 2 ^ Config.gammaShift) q.bias q.freq).modify
      (plainWinner x q) (· - 65536) := rfl
  rw [hbias, List.getElem?_modify, List.getElem?_zipWith]
  cases q.bias[k]? with
  | none => rfl
  | some b =>
    cases q.freq[k]? with
    | none => rfl
    | some f =>
      simp only [Option.map_some, Option.map_eq_map, Option.bind_some, hgain, eq_comm (a := k)]
      split <;> simp

/-- Settles O52: each winner's scan ends at the first least position, and the bookkeeping is entry by entry. -/
theorem contestPicksFirstLeast : Obligations.ContestPicksFirstLeast := by
  intro q x hnet hfreq hbias dist biased hbound
  have hscan := contestScan_eq_winnerScan (hbias.trans hnet.symm) x 256 0 (by omega) Winner.start Winner.start
  rw [List.drop_zero, List.drop_zero] at hscan
  obtain ⟨p, hp, hplain, hpleast, hpfirst⟩ := winnerScan_first_least dist (by decide) fun k hk => (hbound k hk).1
  obtain ⟨j, hj, hbiased, hjleast, hjfirst⟩ := winnerScan_first_least biased (by decide) fun k hk => (hbound k hk).2
  have hanswer : (nqContest x q).1 = j := (congrArg (·.2.pos) hscan).trans hbiased
  have hwinner : plainWinner x q = p := by
    rw [plainWinner, hscan]
    exact congrArg Int.toNat hplain
  refine ⟨j, p, hj, hp, hanswer, hjleast, hjfirst, hpleast, hpfirst, (nqContest_freq_length x q).trans hfreq,
    (nqContest_bias_length x q (hfreq.trans hbias.symm)).trans hbias, fun k hk => ?_, fun k hk => ?_, nqContest_net x q⟩
  · have hkf : k < q.freq.length := hfreq ▸ hk
    simp only [List.getD_eq_getElem?_getD, nqContest_freq_getElem?, List.getElem?_eq_getElem hkf, hwinner, Option.map_some,
      Option.getD_some]
  · have hkf : k < q.freq.length := hfreq ▸ hk
    have hkb : k < q.bias.length := hbias ▸ hk
    simp only [List.getD_eq_getElem?_getD, nqContest_bias_getElem?, List.getElem?_eq_getElem hkf, List.getElem?_eq_getElem hkb,
      hwinner, Option.bind_some, Option.map_some, Option.getD_some]

/-- Settles O53: a contest takes from BIAS 1024 times what it gives FREQ, at every neuron. -/
theorem contestKeepsBiasIdentity : Obligations.ContestKeepsBiasIdentity := by
  refine ⟨fun q => ⟨nqInit_net_length q, nqInit_freq_length q, nqInit_bias_length q, fun i hi => ⟨?_, ?_, ?_⟩⟩,
    fun q => ?_, fun q x hid => ?_⟩
  · simp only [nqInit, List.getElem?_map, List.getElem?_range (show i < Config.netSize from hi), Option.map_some,
      initialNeuron_eq]
  · exact List.getElem?_replicate_of_lt hi
  · exact List.getElem?_replicate_of_lt hi
  · simp only [nqInit, List.map_replicate]
    exact congrArg (List.replicate Config.netSize) (by decide)
  · refine List.ext_getElem? fun k => ?_
    rw [nqContest_bias_getElem?, List.getElem?_map, nqContest_freq_getElem?, hid, List.getElem?_map]
    cases q.freq[k]? with
    | none => rfl
    | some f =>
      simp only [Option.map_some, Option.bind_some, Option.some.injEq]
      split <;> omega

/-! ### The two updates, R153 to R155 -/

/-- An entry after a modification that is made only under a condition. -/
theorem getElem?_ite_modify {α : Type} (c : Prop) [Decidable c] (f : α → α) (l : List α) (i p : Nat) :
    (if c then l.modify i f else l)[p]? = (l[p]?).map fun a => if c ∧ p = i then f a else a := by
  by_cases hc : c
  · simp only [hc, if_true, true_and, List.getElem?_modify, Option.map_eq_map, eq_comm (a := i)]
  · simp only [hc, if_false, false_and, Option.map_id']

/-- NQ_AlterSingle, position by position (R153). -/
theorem nqAlterSingle_getElem? (alpha j : Nat) (x : Colour) (q : Quant) (p : Nat) : (nqAlterSingle alpha j x q).net[p]?
    = (q.net[p]?).map fun n => if p = j then moveNeuron alpha Config.initAlpha x n else n := by
  simp only [nqAlterSingle, List.getElem?_modify, Option.map_eq_map, eq_comm (a := j)]

/-- What the loop of R154 still does at position `p` when its next weight is `m`: it moves the neuron if its distance from `j` is
at least `m` and below `rad`. -/
def neighbourMove (radpower : List Nat) (x : Colour) (rad j m p : Nat) (n : Neuron) : Neuron :=
  let d := ((p : Int) - j).natAbs
  if m ≤ d ∧ d < rad then moveNeuron (radpower.getD d 0 : Nat) Config.alphaRadBias x n else n

/-- A position nearer than the next weight, or not inside the radius, is left alone. -/
theorem neighbourMove_eq_id {rad j m p : Nat} (h : ((p : Int) - j).natAbs < m ∨ rad ≤ ((p : Int) - j).natAbs)
    (radpower : List Nat) (x : Colour) : neighbourMove radpower x rad j m p = id := by
  funext n
  exact if_neg (by omega)

/-- The weight `m` is that of the position at distance `m` above `j`, and of the one below it. -/
theorem neighbourMove_succ {rad m : Nat} (hm : 1 ≤ m) (hrad : m < rad) (radpower : List Nat) (x : Colour) (j p : Nat)
    (n : Neuron) : neighbourMove radpower x rad j m p n =
      let move := moveNeuron (radpower.getD m 0 : Nat) Config.alphaRadBias x
      let moved := if j < p ∧ ((p : Int) - j).natAbs = m then move n else n
      neighbourMove radpower x rad j (m + 1) p (if p < j ∧ ((p : Int) - j).natAbs = m then move moved else moved) := by
  by_cases hhere : ((p : Int) - j).natAbs = m
  · have hside : j < p ∧ ¬ p < j ∨ ¬ j < p ∧ p < j := by omega
    rw [neighbourMove_eq_id (m := m + 1) (.inl (by omega)), neighbourMove, hhere]
    rcases hside with ⟨hright, hnotLeft⟩ | ⟨hnotRight, hleft⟩
    · simp only [hright, hnotLeft, hrad, le_refl, and_self, false_and, if_true, if_false, id_eq]
    · simp only [hleft, hnotRight, hrad, le_refl, and_self, false_and, if_true, if_false, id_eq]
  · have hnext : m + 1 ≤ ((p : Int) - j).natAbs ↔ m ≤ ((p : Int) - j).natAbs := by omega
    simp only [hhere, and_false, if_false, neighbourMove, hnext]

/-- The loop of R154 from weight `m` on, position by position: the walks up and down stand at distance `m` from `j`, or at their
limits. -/
theorem alterNeighLoop_getElem? (radpower : List Nat) (x : Colour) {rad j p : Nat} (hj : j < 256) (hp : p < 256) {lo hi : Int}
    (hlo : lo = max ((j : Int) - rad) (-1)) (hhi : hi = min ((j : Int) + rad) 256) (fuel : Nat) {m : Nat} (hm : 1 ≤ m)
    (hfuel : rad ≤ fuel + m) {up down : Int} (hup : up = min ((j : Int) + m) hi) (hdown : down = max ((j : Int) - m) lo)
    (net : List Neuron) : (alterNeighLoop radpower x lo hi fuel up down m net)[p]?
      = (net[p]?).map (neighbourMove radpower x rad j m p) := by
  induction fuel generalizing m up down net with
  | zero =>
    rw [neighbourMove_eq_id (by omega), Option.map_id]
    rfl
  | succ fuel ih =>
    unfold alterNeighLoop
    split
    next hrun =>
      have hrad : m < rad := by omega
      rw [ih (by omega) (by omega) (by split <;> omega) (by split <;> omega), getElem?_ite_modify, getElem?_ite_modify,
        Option.map_map, Option.map_map]
      have hupHere : (up < hi ∧ p = up.toNat) ↔ (j < p ∧ ((p : Int) - j).natAbs = m) := by
        clear hdown hlo hrun
        constructor <;> omega
      have hdownHere : (down > lo ∧ p = down.toNat) ↔ (p < j ∧ ((p : Int) - j).natAbs = m) := by
        clear hup hhi hrun
        constructor <;> omega
      simp only [hupHere, hdownHere]
      exact congrArg (Option.map · _) (funext (neighbourMove_succ hm hrad radpower x j p)).symm
    next =>
      rw [neighbourMove_eq_id (by omega), Option.map_id]
      rfl

/-- NQ_AlterNeigh, position by position (R154, R155). -/
theorem nqAlterNeigh_getElem? (rad : Nat) {j p : Nat} (hj : j < 256) (hp : p < 256) (x : Colour) (q : Quant) :
    (nqAlterNeigh rad j x q).net[p]? = (q.net[p]?).map (neighbourMove q.radpower x rad j 1 p) := by
  rcases Nat.eq_zero_or_pos rad with rfl | hrad
  · rw [neighbourMove_eq_id (.inr (Nat.zero_le _)), Option.map_id]
    rfl
  · exact alterNeighLoop_getElem? q.radpower x hj hp rfl rfl rad (Nat.le_refl 1) (Nat.le_succ rad)
      (by omega) (by omega) q.net

/-- Settles O54: both updates position by position. -/
theorem neighbourUpdateIsDistanceWeighted : Obligations.NeighbourUpdateIsDistanceWeighted := by
  refine ⟨fun q x alpha j p => nqAlterSingle_getElem? alpha j x q p, fun q x rad j p _ hj hp => ?_⟩
  have hdist : ((p : Int) - j).natAbs = if p ≤ j then j - p else p - j := by split <;> omega
  rw [nqAlterNeigh_getElem? rad hj hp]
  refine congrArg (Option.map · _) (funext fun n => ?_)
  simp only [neighbourMove, hdist]
  rfl

/-! ### What one training sample and one turn leave alone -/

/-- A sample writes NET, FREQ and BIAS alone, the last two as the contest does (R147). -/
theorem nqTrainSample_eq (x : Colour) (q : Quant) : nqTrainSample x q
    = { q with net := (nqTrainSample x q).net, freq := (nqContest x q).2.freq, bias := (nqContest x q).2.bias } := by
  simp only [nqTrainSample]
  split <;> rfl

/-- The biased winner moves, and its neighbours unless RAD = 0 (R147). -/
theorem nqTrainSample_net (x : Colour) (q : Quant) : (nqTrainSample x q).net =
    let won := nqContest x q
    let moved := nqAlterSingle q.alpha won.1.toNat x won.2
    if q.rad ≠ 0 then (nqAlterNeigh q.rad won.1.toNat x moved).net else moved.net := by
  rw [nqTrainSample, apply_ite Quant.net]
  rfl

/-- PIX and I go on by one sample (R147). -/
def nqAdvance (len : Nat) (q : Quant) : Quant :=
  { q with pix := if q.pix + q.stride ≥ len then q.pix + q.stride - len else q.pix + q.stride, i := q.i + 1 }

/-- A turn: the sample at PIX, the advance, and a decay when DELTA divides the count of turns (R147). -/
theorem nqLearnStep_eq (samples : List Byte) (len : Nat) (q : Quant) : nqLearnStep samples len q =
    let moved := nqAdvance len (nqTrainSample (sampleAt samples q.pix) q)
    if (q.i + 1) % q.delta = 0 then nqDecay moved else moved := by
  rw [nqLearnStep, nqTrainSample_eq]
  rfl

/-! ### The schedule of training, R144 to R150 -/

/-- The loop's last turn comes after the others. -/
theorem nqLearnLoop_succ (samples : List Byte) (len n : Nat) (q : Quant) :
    nqLearnLoop samples len (n + 1) q = nqLearnStep samples len (nqLearnLoop samples len n q) := by
  induction n generalizing q with
  | zero => rfl
  | succ n ih => exact ih (nqLearnStep samples len q)

/-- The weights of R146, as far as they are recomputed. -/
theorem nqSetRadpower_getElem? {q : Quant} (hrad : q.rad ≤ Config.initRad) {m : Nat} (hm : m < q.rad) :
    (nqSetRadpower q).radpower[m]? = some (q.alpha * ((q.rad * q.rad - m * m) * 256 / (q.rad * q.rad))) := by
  simp only [nqSetRadpower, List.getElem?_map, List.getElem?_range (hm.trans_le hrad), Option.map_some, if_pos hm]
  rfl

/-- RAD is RADIUS / 64, with 1 replaced by 0 (R144, R150). -/
theorem radOfRadius_eq (radius : Nat) : radOfRadius radius = if radius / 64 ≤ 1 then 0 else radius / 64 := rfl

/-- RAD is at most 32, the length of RADPOWER. -/
theorem radOfRadius_le {radius : Nat} (h : radius ≤ Config.initRadius) : radOfRadius radius ≤ Config.initRad := by
  have h' : radius ≤ 2048 := h
  show radOfRadius radius ≤ 32
  rw [radOfRadius_eq]
  split <;> omega

/-- The strides of R145. -/
theorem nqStride_eq (len : Nat) : nqStride len = if len < 1509 then 3 else if len % 499 ≠ 0 then 1497
    else if len % 491 ≠ 0 then 1473 else if len % 487 ≠ 0 then 1461 else 1509 := rfl

/-- A stride is whole pixels, and no longer than the samples (R147). -/
theorem nqStride_bounds {len : Nat} (h : 3 ≤ len) : nqStride len % 3 = 0 ∧ nqStride len ≤ len := by
  rw [nqStride_eq]
  split_ifs <;> omega

/-- The sample at a whole pixel inside S (R147, R148). -/
theorem sampleAt_eq {samples : List Byte} {pix : Nat} (h : pix + 2 < samples.length) : sampleAt samples pix
    = { x0 := 16 * ((samples.getD pix 0).toNat : Nat), x1 := 16 * ((samples.getD (pix + 1) 0).toNat : Nat),
        x2 := 16 * ((samples.getD (pix + 2) 0).toNat : Nat) } := by
  have hvalue (b : Byte) : sampleValue b = 16 * (b.toNat : Nat) := by simp only [sampleValue, Config.netBiasShift]; omega
  rw [sampleAt, List.drop_eq_getElem_cons (by omega), List.drop_eq_getElem_cons (by omega), List.drop_eq_getElem_cons (by omega)]
  simp only [hvalue, List.getD_eq_getElem _ _ (show pix < samples.length by omega),
    List.getD_eq_getElem _ _ (show pix + 1 < samples.length by omega), List.getD_eq_getElem _ _ h]

/-- What stands before turn `k` of the training of `len` sample bytes that `setup` sets up. -/
structure OnSchedule (len : Nat) (setup : Quant) (k : Nat) (q : Quant) : Prop where
  /-- PIX is at a whole pixel. -/
  pixMod : q.pix % 3 = 0
  /-- PIX is inside S. -/
  pixLt : q.pix < len
  /-- I counts the turns. -/
  turns : q.i = k
  /-- STEP, DELTA and ALPHADEC stay. -/
  fixed : q.stride = setup.stride ∧ q.delta = setup.delta ∧ q.alphadec = setup.alphadec
  /-- RADIUS is no more than at the start. -/
  radiusLe : q.radius ≤ Config.initRadius
  /-- RAD follows RADIUS. -/
  rad : q.rad = radOfRadius q.radius
  /-- RADPOWER follows ALPHA and RAD. -/
  radpower : ∀ m < q.rad, q.radpower[m]? = some (q.alpha * ((q.rad * q.rad - m * m) * 256 / (q.rad * q.rad)))

namespace OnSchedule
variable {len quality k : Nat} {q : Quant}

/-- The setup is on schedule. -/
theorem start (hlen : 3 ≤ len) :
    OnSchedule len (nqLearnSetup len quality q) 0 { nqLearnSetup len quality q with pix := 0, i := 0 } where
  pixMod := rfl
  pixLt := by show 0 < len; omega
  turns := rfl
  fixed := ⟨rfl, rfl, rfl⟩
  radiusLe := le_rfl
  rad := Eq.refl (radOfRadius Config.initRadius)
  radpower m hm := nqSetRadpower_getElem? (radOfRadius_le (le_refl Config.initRadius)) hm

variable {setup : Quant}

/-- A sample writes none of this. -/
theorem trainSample (h : OnSchedule len setup k q) (x : Colour) : OnSchedule len setup k (nqTrainSample x q) := by
  rw [nqTrainSample_eq]
  exact { h with }

/-- PIX goes on by whole pixels, around the end of S once at most. -/
theorem advance (h : OnSchedule len setup k q) (hlen : len % 3 = 0) (hstride : setup.stride % 3 = 0 ∧ setup.stride ≤ len) :
    OnSchedule len setup (k + 1) (nqAdvance len q) := by
  have hmod := h.pixMod
  have hlt := h.pixLt
  rw [← h.fixed.1] at hstride
  exact { h with
    pixMod := by dsimp only [nqAdvance]; split <;> omega
    pixLt := by dsimp only [nqAdvance]; split <;> omega
    turns := congrArg (· + 1) h.turns }

/-- A decay follows R150. -/
theorem decay (h : OnSchedule len setup k q) : OnSchedule len setup k (nqDecay q) :=
  have hradius : (nqDecay q).radius ≤ Config.initRadius := (Nat.sub_le _ _).trans h.radiusLe
  { h with
    radiusLe := hradius
    rad := rfl
    radpower := fun _ hm => nqSetRadpower_getElem? (radOfRadius_le hradius) hm }

/-- So a turn keeps to the schedule. -/
theorem learnStep (h : OnSchedule len setup k q) (hlen : len % 3 = 0) (hstride : setup.stride % 3 = 0 ∧ setup.stride ≤ len)
    (samples : List Byte) : OnSchedule len setup (k + 1) (nqLearnStep samples len q) := by
  have hmoved := (h.trainSample (sampleAt samples q.pix)).advance hlen hstride
  rw [nqLearnStep_eq]
  dsimp only
  split
  · exact hmoved.decay
  · exact hmoved

/-- And every turn finds the training on schedule. -/
theorem learnLoop (h : OnSchedule len setup 0 q) (hlen : len % 3 = 0) (hstride : setup.stride % 3 = 0 ∧ setup.stride ≤ len)
    (samples : List Byte) (n : Nat) : OnSchedule len setup n (nqLearnLoop samples len n q) := by
  induction n with
  | zero => exact h
  | succ n ih => exact nqLearnLoop_succ samples len n q ▸ ih.learnStep hlen hstride samples

end OnSchedule

/-- What a turn writes, register by register: the sample's move, PIX, and ALPHA and RADIUS when DELTA divides the count of
turns. -/
theorem nqLearnStep_registers (samples : List Byte) (len : Nat) (q : Quant) :
    let next := nqLearnStep samples len q
    next.pix = (if q.pix + q.stride ≥ len then q.pix + q.stride - len else q.pix + q.stride)
      ∧ next.net = (nqTrainSample (sampleAt samples q.pix) q).net
      ∧ next.freq = (nqContest (sampleAt samples q.pix) q).2.freq ∧ next.bias = (nqContest (sampleAt samples q.pix) q).2.bias
      ∧ next.alpha = (if (q.i + 1) % q.delta = 0 then q.alpha - q.alpha / q.alphadec else q.alpha)
      ∧ next.radius = (if (q.i + 1) % q.delta = 0 then q.radius - q.radius / 30 else q.radius) := by
  rw [nqLearnStep_eq, nqTrainSample_eq]
  by_cases hdecay : (q.i + 1) % q.delta = 0
  · simp only [if_pos hdecay]
    exact ⟨rfl, rfl, rfl, rfl, rfl, rfl⟩
  · simp only [if_neg hdecay]
    exact ⟨rfl, rfl, rfl, rfl, rfl, rfl⟩

/-- DELTA is at least 1 (R144). -/
theorem nqLearnSetup_delta (len quality : Nat) (q : Quant) :
    (nqLearnSetup len quality q).delta = max 1 ((nqLearnSetup len quality q).samplepixels / 100) := by
  have hdelta : (nqLearnSetup len quality q).delta = if (nqLearnSetup len quality q).samplepixels / 100 = 0 then 1
      else (nqLearnSetup len quality q).samplepixels / 100 := rfl
  rw [hdelta]
  split <;> omega

/-- Settles O50: the schedule holds at the start and every turn keeps it; a turn writes what it says. -/
theorem samplingStaysInsideFrame : Obligations.SamplingStaysInsideFrame := by
  intro samples pixels quality q hlen hpixels
  refine ⟨⟨rfl, rfl, rfl, nqLearnSetup_delta _ _ q, rfl, rfl, rfl, nqStride_eq _⟩, rfl, fun k => ?_⟩
  dsimp only
  rw [nqLearnLoop_succ]
  have hsched := (OnSchedule.start (quality := quality) (q := q) (show 3 ≤ samples.length by omega)).learnLoop (by omega)
    (nqStride_bounds (by omega)) samples k
  generalize nqLearnLoop samples samples.length k { nqLearnSetup samples.length quality q with pix := 0, i := 0 } = now
    at hsched ⊢
  have hmod := hsched.pixMod
  have hlt := hsched.pixLt
  obtain ⟨hstride, hdelta, halphadec⟩ := hsched.fixed
  obtain ⟨hpix, hnet, hfreq, hbias, halpha, hradius⟩ := nqLearnStep_registers samples samples.length now
  rw [hstride] at hpix
  rw [hsched.turns, hdelta] at halpha hradius
  rw [halphadec] at halpha
  rw [nqTrainSample_net, sampleAt_eq (by omega)] at hnet
  rw [sampleAt_eq (by omega)] at hfreq hbias
  exact ⟨hmod, hlt, hsched.turns, hpix, hnet, hfreq, hbias, halpha, hradius, hsched.rad, hsched.radpower⟩

/-! ### Training keeps the channels in range, R141 and R157 -/

/-- Every channel is 0 to `hi`. -/
def Neuron.InRange (hi : Int) (n : Neuron) : Prop :=
  0 ≤ n.c0 ∧ n.c0 ≤ hi ∧ 0 ≤ n.c1 ∧ n.c1 ≤ hi ∧ 0 ≤ n.c2 ∧ n.c2 ≤ hi

/-- Every channel of a sample is 0 to `hi`. -/
def Colour.InRange (hi : Int) (x : Colour) : Prop :=
  0 ≤ x.x0 ∧ x.x0 ≤ hi ∧ 0 ≤ x.x1 ∧ x.x1 ≤ hi ∧ 0 ≤ x.x2 ∧ x.x2 ≤ hi

/-- A channel moved by a fraction of at most 1 stays between where it was and the sample (R153: it never passes it). -/
theorem moveChannel_between {a scale : Int} (ha : 0 ≤ a) (hle : a ≤ scale) (hs : 0 < scale) (c x : Int) :
    min c x ≤ moveChannel a scale c x ∧ moveChannel a scale c x ≤ max c x := by
  have hwhole : (scale * (c - x)).tdiv scale = c - x := Int.mul_tdiv_cancel_left _ hs.ne'
  unfold moveChannel tdiv
  rcases le_total 0 (c - x) with hd | hd
  · have hnonneg : 0 ≤ (a * (c - x)).tdiv scale := Int.tdiv_nonneg (mul_nonneg ha hd) hs.le
    have hpart : (a * (c - x)).tdiv scale ≤ c - x :=
      (Int.tdiv_le_tdiv hs (mul_le_mul_of_nonneg_right hle hd)).trans_eq hwhole
    omega
  · have hnonpos : (a * (c - x)).tdiv scale ≤ 0 :=
      Int.zero_tdiv scale ▸ Int.tdiv_le_tdiv hs (mul_nonpos_of_nonneg_of_nonpos ha hd)
    have hpart : c - x ≤ (a * (c - x)).tdiv scale :=
      hwhole.symm.trans_le (Int.tdiv_le_tdiv hs (mul_le_mul_of_nonpos_right hle hd))
    omega

/-- A neuron moved toward a sample in range stays in range. -/
theorem Neuron.InRange.move {a scale hi : Int} (ha : 0 ≤ a) (hle : a ≤ scale) (hs : 0 < scale) {x : Colour}
    (hx : x.InRange hi) {n : Neuron} (hn : n.InRange hi) : (moveNeuron a scale x n).InRange hi := by
  obtain ⟨h0, h0', h1, h1', h2, h2'⟩ := hn
  obtain ⟨x0, x0', x1, x1', x2, x2'⟩ := hx
  have m0 := moveChannel_between ha hle hs n.c0 x.x0
  have m1 := moveChannel_between ha hle hs n.c1 x.x1
  have m2 := moveChannel_between ha hle hs n.c2 x.x2
  simp only [Neuron.InRange, moveNeuron]
  omega

/-- What holds of every entry, and is kept by `f`, holds of every entry after a modification by `f`. -/
theorem forall_mem_modify {α : Type} {P : α → Prop} {f : α → α} (hf : ∀ a, P a → P (f a)) {l : List α}
    (hl : ∀ a ∈ l, P a) (i : Nat) : ∀ a ∈ l.modify i f, P a := by
  refine List.forall_mem_iff_getElem.mpr fun k hk => ?_
  rw [List.length_modify] at hk
  have hold := hl l[k] (List.getElem_mem hk)
  rw [List.getElem_modify]
  split
  · exact hf _ hold
  · exact hold

/-- What every weighted move keeps, the neighbour update keeps. -/
theorem forall_mem_alterNeighLoop {P : Neuron → Prop} {radpower : List Nat} {x : Colour}
    (hmove : ∀ m n, P n → P (moveNeuron (radpower.getD m 0 : Nat) Config.alphaRadBias x n)) (lo hi : Int) (fuel : Nat)
    (up down : Int) (m : Nat) {net : List Neuron} (hnet : ∀ n ∈ net, P n) :
    ∀ n ∈ alterNeighLoop radpower x lo hi fuel up down m net, P n := by
  induction fuel generalizing up down m net with
  | zero => exact hnet
  | succ fuel ih =>
    unfold alterNeighLoop
    split
    · have hup : ∀ n ∈ if up < hi then net.modify up.toNat (moveNeuron (radpower.getD m 0 : Nat) Config.alphaRadBias x)
          else net, P n := by
        split
        · exact forall_mem_modify (hmove m) hnet _
        · exact hnet
      refine ih _ _ _ ?_
      split
      · exact forall_mem_modify (hmove m) hup _
      · exact hup
    · exact hnet

/-- What R141 says of the registers that move neurons, in every state of training. -/
structure TrainingInRange (q : Quant) : Prop where
  /-- NET channels are 0 to 4080. -/
  net : ∀ n ∈ q.net, n.InRange 4080
  /-- ALPHA is at most 1024. -/
  alpha : q.alpha ≤ Config.initAlpha
  /-- RADPOWER entries are at most 262144. -/
  radpower : ∀ w ∈ q.radpower, w ≤ Config.alphaRadBias

/-- A quadratic weight is at most 1 (R146). -/
theorem radWeight_le {alpha : Nat} (h : alpha ≤ Config.initAlpha) (rad i : Nat) :
    alpha * fdiv ((rad * rad - i * i) * Config.radBias) (rad * rad) ≤ Config.alphaRadBias := by
  have hfrac : fdiv ((rad * rad - i * i) * Config.radBias) (rad * rad) ≤ Config.radBias :=
    Nat.div_le_of_le_mul (Nat.mul_le_mul_right _ (Nat.sub_le _ _))
  calc _ ≤ Config.initAlpha * Config.radBias := Nat.mul_le_mul h hfrac
    _ = Config.alphaRadBias := by decide

/-- The weight table is in range wherever it keeps an old entry only if that entry was. -/
theorem nqSetRadpower_radpower_le {q : Quant} (ha : q.alpha ≤ Config.initAlpha)
    (hold : ∀ i, q.rad ≤ i → i < Config.initRad → q.radpower.getD i 0 ≤ Config.alphaRadBias) :
    ∀ w ∈ (nqSetRadpower q).radpower, w ≤ Config.alphaRadBias := by
  intro w hw
  obtain ⟨i, hi, rfl⟩ := List.mem_map.mp hw
  split
  next => exact radWeight_le ha q.rad i
  next hrad => exact hold i (Nat.le_of_not_lt hrad) (List.mem_range.mp hi)

namespace TrainingInRange
variable {q : Quant}

/-- Read past its end, RADPOWER gives 0. -/
theorem radpower_getD (h : TrainingInRange q) (m : Nat) : q.radpower.getD m 0 ≤ Config.alphaRadBias := by
  rcases Nat.lt_or_ge m q.radpower.length with hm | hm
  · rw [List.getD_eq_getElem _ _ hm]
    exact h.radpower _ (List.getElem_mem hm)
  · rw [List.getD_eq_default _ _ hm]
    exact Nat.zero_le _

/-- One sample in range keeps all of it. -/
theorem trainSample (h : TrainingInRange q) {x : Colour} (hx : x.InRange 4080) : TrainingInRange (nqTrainSample x q) := by
  have hsingle : ∀ n ∈ (nqAlterSingle q.alpha (nqContest x q).1.toNat x (nqContest x q).2).net, n.InRange 4080 :=
    forall_mem_modify (fun _ hn => hn.move (by omega) (by exact_mod_cast h.alpha) (by decide) hx) h.net _
  rw [nqTrainSample_eq]
  refine ⟨?_, h.alpha, h.radpower⟩
  dsimp only
  rw [nqTrainSample_net]
  dsimp only
  split
  · exact forall_mem_alterNeighLoop
      (fun m _ hn => hn.move (by omega) (by exact_mod_cast h.radpower_getD m) (by decide) hx) _ _ _ _ _ _ hsingle
  · exact hsingle

/-- So does a decay: ALPHA only falls. -/
theorem decay (h : TrainingInRange q) : TrainingInRange (nqDecay q) where
  net := h.net
  alpha := (Nat.sub_le _ _).trans h.alpha
  radpower := nqSetRadpower_radpower_le ((Nat.sub_le _ _).trans h.alpha) fun i _ _ => h.radpower_getD i

end TrainingInRange

/-- A sample byte is 0 to 4080 as a training value (R148). -/
theorem sampleValue_range (b : Byte) : 0 ≤ sampleValue b ∧ sampleValue b ≤ 4080 := by
  have hb := b.isLt
  simp only [sampleValue, Config.netBiasShift]
  omega

/-- So is every sample. -/
theorem sampleAt_inRange (samples : List Byte) (pix : Nat) : (sampleAt samples pix).InRange 4080 := by
  unfold sampleAt
  split
  next r g b _ _ =>
    exact ⟨(sampleValue_range r).1, (sampleValue_range r).2, (sampleValue_range g).1, (sampleValue_range g).2,
      (sampleValue_range b).1, (sampleValue_range b).2⟩
  next => simp [Colour.InRange]

/-- A turn keeps the ranges, whatever the samples. -/
theorem TrainingInRange.learnStep {q : Quant} (h : TrainingInRange q) (samples : List Byte) (len : Nat) :
    TrainingInRange (nqLearnStep samples len q) := by
  have hmoved : TrainingInRange (nqAdvance len (nqTrainSample (sampleAt samples q.pix) q)) :=
    { h.trainSample (sampleAt_inRange samples q.pix) with }
  rw [nqLearnStep_eq]
  dsimp only
  split
  · exact hmoved.decay
  · exact hmoved

/-- Initialisation and setup start in range: RAD = 32 leaves no old weight. -/
theorem trainingInRange_start (len quality : Nat) (q : Quant) : TrainingInRange (nqLearnSetup len quality (nqInit q)) where
  net n hn := by
    obtain ⟨i, hi, rfl⟩ := List.mem_map.mp (show n ∈ (List.range Config.netSize).map initialNeuron from hn)
    have hlt : i < 256 := List.mem_range.mp hi
    simp only [initialNeuron_eq, Neuron.InRange]
    omega
  alpha := Nat.le_refl _
  radpower := nqSetRadpower_radpower_le (Nat.le_refl _) fun i hrad hi => absurd hrad (Nat.not_le.mpr hi)

/-- Training keeps the ranges of R141 to its end. -/
theorem trainingInRange_learn (samples : List Byte) (quality : Nat) (q : Quant) :
    TrainingInRange (nqLearn samples (nqLearnSetup samples.length quality (nqInit q))) :=
  nqLearnLoop_keeps (P := TrainingInRange) (fun _ h => h.learnStep samples _) _
    { trainingInRange_start samples.length quality q with }

/-! ### Unbias, R156 -/

/-- Unbias divides the channels by 16, rounded down, and numbers the entry. -/
theorem unbiasNeuron_eq (p : Nat) (n : Neuron) : unbiasNeuron p n
    = { c0 := Int.fdiv n.c0 16, c1 := Int.fdiv n.c1 16, c2 := Int.fdiv n.c2 16, idx := BitVec.ofNat 8 p } := by
  simp only [Int.fdiv_eq_ediv_of_nonneg _ (show (0 : Int) ≤ 16 by decide)]
  rfl

/-- Channels of 0 to 4080 become bytes (R157). -/
theorem Neuron.InRange.unbias {n : Neuron} (h : n.InRange 4080) (p : Nat) : (unbiasNeuron p n).InRange 255 := by
  simp only [Neuron.InRange, unbiasNeuron, asr, Config.netBiasShift] at h ⊢
  omega

/-- The entry at a position after Unbias. -/
theorem nqUnbias_getElem? (q : Quant) (p : Nat) : (nqUnbias q).net[p]? = (q.net[p]?).map (unbiasNeuron p) :=
  List.getElem?_mapIdx

/-- Every entry after Unbias comes from the entry at its own position. -/
theorem mem_nqUnbias {q : Quant} {n : Neuron} (h : n ∈ (nqUnbias q).net) :
    ∃ p m, q.net[p]? = some m ∧ (nqUnbias q).net[p]? = some n ∧ n = unbiasNeuron p m := by
  obtain ⟨p, hp⟩ := List.mem_iff_getElem?.mp h
  obtain ⟨m, hm, rfl⟩ := Option.map_eq_some_iff.mp (nqUnbias_getElem? q p ▸ hp)
  exact ⟨p, m, hm, hp, rfl⟩

/-- Training and Unbias keep 256 entries. -/
theorem nqTrained_net_length (samples : List Byte) (quality : Nat) (q : Quant) :
    (nqTrained samples quality q).net.length = 256 := by
  rw [nqTrained, nqUnbias_net_length, nqLearn, nqLearnLoop_net_length]
  exact nqInit_net_length q

/-- Settles O51: the ranges of R141 hold at the start of training and every turn keeps them; Unbias is a division per entry. -/
theorem trainedChannelsStayInRange : Obligations.TrainedChannelsStayInRange := by
  refine ⟨fun samples quality q _ _ => ?_, fun q p => ?_⟩
  · have hlearned := (trainingInRange_learn samples quality q).net
    refine ⟨hlearned, nqTrained_net_length samples quality q, fun n hn => ?_, fun p hp => ?_⟩
    · obtain ⟨p, m, hm, -, rfl⟩ := mem_nqUnbias hn
      exact (hlearned m (List.mem_of_getElem? hm)).unbias p
    · have hlt : p < 256 := nqTrained_net_length samples quality q ▸ hp
      simp only [nqTrained, nqUnbias, List.getElem_mapIdx, unbiasNeuron, byteOfNat, BitVec.toNat_ofNat]
      omega
  · rw [nqUnbias_getElem?]
    exact congrArg (Option.map · _) (funext (unbiasNeuron_eq p))

/-! ### The sort of NQ_IndexBuild, R158 -/

/-- The inner loop of R158 is a scan of the tail's entries with their offsets; the best so far is a key and an offset. -/
theorem smallestAfter_eq_foldl (val : Int) (k : Nat) (ns : List Neuron) (best : Option Nat) : smallestAfter val k ns best
    = ((ns.zipIdx k).foldl (fun s a => if a.1.c1 < s.1 then (a.1.c1, some a.2) else s) (val, best)).2 := by
  induction ns generalizing val k best with
  | nil => rfl
  | cons n ns ih =>
    rw [smallestAfter, List.zipIdx_cons, List.foldl_cons]
    split <;> exact ih _ _ _

/-- Offsets rise along a list. -/
theorem pairwise_lt_zipIdx {α : Type} (l : List α) (k : Nat) : (l.zipIdx k).Pairwise fun a b => a.2 < b.2 := by
  rw [← List.pairwise_map, List.zipIdx_map_snd]
  exact List.pairwise_lt_range' 1

/-- The inner loop of R158 finds the first of the tail's least entries, if the least is below the head's key. -/
theorem smallestAfter_cases (val : Int) (xs : List Neuron) :
    (smallestAfter val 0 xs none = none ∧ ∀ n ∈ xs, val ≤ n.c1)
    ∨ ∃ k least, smallestAfter val 0 xs none = some k ∧ xs[k]? = some least ∧ least.c1 < val
        ∧ ∀ i n, xs[i]? = some n → least.c1 ≤ n.c1 ∧ (i < k → least.c1 < n.c1) := by
  have hoffer (s : Int × Option Nat) (a : Neuron × Nat) :
      (if a.1.c1 < s.1 then (a.1.c1, some a.2) else s) = if a.1.c1 < s.1 then (a.1.c1, some a.2) else s := rfl
  rw [smallestAfter_eq_foldl]
  by_cases hnear : ∃ a ∈ xs.zipIdx, a.1.c1 < val
  · right
    obtain ⟨⟨least, k⟩, hmem, hend, hleast⟩ :=
      foldl_offer_first_least hoffer (fun _ => rfl) (pairwise_lt_zipIdx xs 0) (s := (val, none)) hnear
    obtain ⟨b, hb, hbval⟩ := hnear
    refine ⟨k, least, congrArg Prod.snd hend, List.mk_mem_zipIdx_iff_getElem?.mp hmem, ((hleast b hb).1).trans_lt hbval,
      fun i n hn => ?_⟩
    obtain ⟨hle, hties⟩ := hleast (n, i) (List.mk_mem_zipIdx_iff_getElem?.mpr hn)
    refine ⟨hle, fun hik => lt_of_le_of_ne hle fun heq => ?_⟩
    rcases hties heq.symm with h | h
    · exact absurd (congrArg Prod.snd h) hik.ne
    · exact absurd h hik.not_gt
  · left
    simp only [not_exists, not_and, Int.not_lt] at hnear
    exact ⟨congrArg Prod.snd (foldl_offer_eq_self hoffer hnear),
      fun n hn => by
        obtain ⟨i, hi⟩ := List.mem_iff_getElem?.mp hn
        exact hnear (n, i) (List.mk_mem_zipIdx_iff_getElem?.mpr hi)⟩

/-- One turn of the sort (R158): the first least entry comes first, and the entry it displaces stands in its place. -/
theorem selectionSort_succ_cons (fuel : Nat) (x : Neuron) (xs : List Neuron) :
    ∃ p least, (x :: xs)[p]? = some least ∧ (∀ n ∈ x :: xs, least.c1 ≤ n.c1)
      ∧ (∀ n ∈ (x :: xs).take p, least.c1 < n.c1)
      ∧ selectionSort (fuel + 1) (x :: xs) = least :: selectionSort fuel ((x :: xs).set p x).tail := by
  rcases smallestAfter_cases x.c1 xs with ⟨hnone, hleast⟩ | ⟨k, least, hsome, hk, hlt, hleast⟩
  · exact ⟨0, x, rfl, List.forall_mem_cons.mpr ⟨le_rfl, hleast⟩, nofun, by rw [selectionSort, hnone]; rfl⟩
  · refine ⟨k + 1, least, hk, List.forall_mem_cons.mpr ⟨hlt.le, fun n hn => ?_⟩,
      List.forall_mem_cons.mpr ⟨hlt, fun n hn => ?_⟩, ?_⟩
    · obtain ⟨i, hi⟩ := List.mem_iff_getElem?.mp hn
      exact (hleast i n hi).1
    · obtain ⟨i, hi⟩ := List.mem_iff_getElem?.mp hn
      rw [List.getElem?_take] at hi
      split at hi
      next hik => exact (hleast i n hi).2 hik
      next => cases hi
    · rw [selectionSort, hsome]
      simp only [List.getD_eq_getElem?_getD, hk, Option.getD_some]
      rfl

/-- A turn only swaps two entries. -/
theorem perm_cons_set_tail {α : Type} {x least : α} {xs : List α} {p : Nat} (h : (x :: xs)[p]? = some least) :
    (least :: ((x :: xs).set p x).tail).Perm (x :: xs) := by
  cases p with
  | zero => cases h; exact .refl _
  | succ k =>
    have hk : xs[k]? = some least := h
    have hswap := List.getD_set_perm_cons xs k x
    rwa [hk] at hswap

/-- The sort only reorders. -/
theorem selectionSort_perm (fuel : Nat) (net : List Neuron) : (selectionSort fuel net).Perm net := by
  induction fuel generalizing net with
  | zero => exact .refl _
  | succ fuel ih =>
    cases net with
    | nil => exact .refl _
    | cons x xs =>
      obtain ⟨p, least, hp, -, -, hsort⟩ := selectionSort_succ_cons fuel x xs
      rw [hsort]
      exact ((ih _).cons least).trans (perm_cons_set_tail hp)

/-- With a turn for every entry, the keys come out in order (R159). -/
theorem selectionSort_sorted {fuel : Nat} {net : List Neuron} (h : net.length ≤ fuel) :
    (selectionSort fuel net).Pairwise fun a b => a.c1 ≤ b.c1 := by
  induction fuel generalizing net with
  | zero =>
    rw [List.length_eq_zero_iff.mp (Nat.le_zero.mp h)]
    exact .nil
  | succ fuel ih =>
    cases net with
    | nil => exact .nil
    | cons x xs =>
      obtain ⟨p, least, hp, hleast, -, hsort⟩ := selectionSort_succ_cons fuel x xs
      rw [hsort]
      refine List.pairwise_cons.mpr ⟨fun n hn => hleast n ?_, ih ?_⟩
      · exact (perm_cons_set_tail hp).mem_iff.mp (List.mem_cons_of_mem _ ((selectionSort_perm _ _).mem_iff.mp hn))
      · simpa using h

@[simp] theorem nqIndexBuild_net (q : Quant) : (nqIndexBuild q).net = selectionSort q.net.length q.net := rfl

/-! ### NETINDEX, R158 and R159 -/

/-- How many entries have a key below `g`. -/
def keysBelow (net : List Neuron) (g : Nat) : Nat := net.countP fun n => n.c1 < (g : Int)

/-- How many entries have a key of at most `g`. -/
def keysUpto (net : List Neuron) (g : Nat) : Nat := net.countP fun n => n.c1 ≤ (g : Int)

/-- No key is below the least. -/
theorem keysBelow_eq_zero {net : List Neuron} {g : Nat} (h : ∀ n ∈ net, (g : Int) ≤ n.c1) : keysBelow net g = 0 :=
  List.countP_eq_zero.mpr fun n hn => by simpa using h n hn

theorem keysUpto_eq_zero {net : List Neuron} {g : Nat} (h : ∀ n ∈ net, (g : Int) < n.c1) : keysUpto net g = 0 :=
  List.countP_eq_zero.mpr fun n hn => by simpa using h n hn

/-- NETINDEX[g] from the entries `net` at positions `i` on, where those of key `g` start at `first`. -/
def netindexEntry (i first : Nat) (net : List Neuron) (g : Nat) : Byte :=
  byteOfNat ((first + min (i + keysUpto net g) 255) / 2)

/-- NETINDEX[g] where the entries of smaller keys come first. -/
def netindexAt (i : Nat) (net : List Neuron) (g : Nat) : Byte := netindexEntry i (i + keysBelow net g) net g

/-- Where no key is `g` or smaller, NETINDEX[g] is the position at hand, or 255. -/
theorem netindexAt_of_absent {i : Nat} {net : List Neuron} {g : Nat} (hi : i ≤ 256) (h : ∀ n ∈ net, (g : Int) < n.c1) :
    netindexAt i net g = byteOfNat (min i 255) := by
  rw [netindexAt, netindexEntry, keysBelow_eq_zero fun n hn => (h n hn).le, keysUpto_eq_zero h]
  exact congrArg byteOfNat (by omega)

/-- An entry passed by counts for every key from its own on. -/
theorem netindexEntry_cons {n : Neuron} {g : Nat} (h : n.c1 ≤ g) (i first : Nat) (ns : List Neuron) :
    netindexEntry i first (n :: ns) g = netindexEntry (i + 1) first ns g := by
  have hcount : keysUpto (n :: ns) g = keysUpto ns g + 1 := List.countP_cons_of_pos (by simpa using h)
  rw [netindexEntry, netindexEntry, hcount, Nat.add_right_comm i 1, Nat.add_assoc]

/-- Its key is also below every later one. -/
theorem netindexAt_cons {n : Neuron} {g : Nat} (h : n.c1 < g) (i : Nat) (ns : List Neuron) :
    netindexAt i (n :: ns) g = netindexAt (i + 1) ns g := by
  have hcount : keysBelow (n :: ns) g = keysBelow ns g + 1 := List.countP_cons_of_pos (by simpa using h)
  rw [netindexAt, netindexAt, netindexEntry_cons h.le, hcount, Nat.add_right_comm i 1, Nat.add_assoc]

/-- The model's runs are one closed form per entry of NETINDEX, from PREVIOUSCOL on: the run of PREVIOUSCOL starts at STARTPOS,
and the run of every later key behind the entries of smaller keys. -/
theorem netindexRuns_eq_map (net : List Neuron) (i prev start : Nat) (hlen : i + net.length = 256)
    (hkeys : ∀ n ∈ net, (prev : Int) ≤ n.c1 ∧ n.c1 ≤ 255) (hsorted : net.Pairwise fun a b => a.c1 ≤ b.c1) :
    netindexRuns i net prev start
      = netindexEntry i start net prev :: (List.range' (prev + 1) (255 - prev)).map (netindexAt i net) := by
  induction net generalizing i prev start with
  | nil =>
    obtain rfl : i = 256 := hlen
    rw [netindexRuns]
    refine congrArg (_ :: ·) (List.eq_replicate_iff.mpr ⟨by simp [Config.netSize], fun b hb => ?_⟩).symm
    obtain ⟨g, -, rfl⟩ := List.mem_map.mp hb
    exact netindexAt_of_absent le_rfl nofun
  | cons n ns ih =>
    obtain ⟨hn, hns⟩ := List.forall_mem_cons.mp hkeys
    obtain ⟨hnleast, hnssorted⟩ := List.pairwise_cons.mp hsorted
    obtain ⟨key, hkey⟩ : ∃ key : Nat, n.c1 = key := ⟨n.c1.toNat, by omega⟩
    have hleast : ∀ m ∈ n :: ns, (key : Int) ≤ m.c1 :=
      List.forall_mem_cons.mpr ⟨hkey.ge, fun m hm => hkey ▸ hnleast m hm⟩
    have hlen' : i + 1 + ns.length = 256 := by rw [← hlen, List.length_cons]; omega
    have hrest (first : Nat) : netindexRuns (i + 1) ns key first
        = netindexEntry i first (n :: ns) key :: (List.range' (key + 1) (255 - key)).map (netindexAt i (n :: ns)) := by
      rw [ih (i + 1) key first hlen' (fun m hm => ⟨hleast m (List.mem_cons_of_mem n hm), (hns m hm).2⟩) hnssorted,
        netindexEntry_cons hkey.le]
      refine congrArg (_ :: ·) (List.map_congr_left fun g hg => (netindexAt_cons ?_ i ns).symm)
      have := (List.mem_range'_1.mp hg).1
      omega
    rw [netindexRuns, hkey, Int.toNat_natCast]
    split
    next hne =>
      have hlt : prev < key := by omega
      have hrange : List.range' (prev + 1) (255 - prev)
          = List.range' (prev + 1) (key - 1 - prev) ++ key :: List.range' (key + 1) (255 - key) := by
        rw [← List.range'_succ]
        simpa [show prev + 1 + (key - 1 - prev) = key by omega, show key - 1 - prev + (255 - key + 1) = 255 - prev by omega]
          using (List.range'_append_1 (s := prev + 1) (m := key - 1 - prev) (n := 255 - key + 1)).symm
      have hbelow {g : Nat} (hg : g < key) : ∀ m ∈ n :: ns, (g : Int) < m.c1 := fun m hm =>
        lt_of_lt_of_le (by exact_mod_cast hg) (hleast m hm)
      have hgap : (List.range' (prev + 1) (key - 1 - prev)).map (netindexAt i (n :: ns))
          = List.replicate (key - 1 - prev) (byteOfNat i) := by
        refine List.eq_replicate_iff.mpr ⟨by simp, fun b hb => ?_⟩
        obtain ⟨g, hg, rfl⟩ := List.mem_map.mp hb
        have := (List.mem_range'_1.mp hg).2
        rw [netindexAt_of_absent (by omega) (hbelow (by omega)), Nat.min_eq_left (by omega)]
      have hfirst : netindexEntry i start (n :: ns) prev = byteOfNat ((start + i) / 2) := by
        rw [netindexEntry, keysUpto_eq_zero (hbelow hlt), Nat.add_zero, Nat.min_eq_left (by omega)]
      have hhere : netindexAt i (n :: ns) key = netindexEntry i i (n :: ns) key := by
        rw [netindexAt, keysBelow_eq_zero hleast, Nat.add_zero]
      rw [hrest, hrange, List.map_append, List.map_cons, hgap, hfirst, hhere]
    next heq =>
      obtain rfl : key = prev := by omega
      exact hrest start

/-- The counts do not see the order of the entries. -/
theorem netindexAt_perm {net net' : List Neuron} (h : net.Perm net') (i : Nat) : netindexAt i net = netindexAt i net' := by
  funext g
  rw [netindexAt, netindexAt, netindexEntry, netindexEntry, keysBelow, keysUpto, h.countP_eq, h.countP_eq]
  rfl

/-- NETINDEX after NQ_IndexBuild of 256 entries with byte keys. -/
theorem nqIndexBuild_netindex {q : Quant} (hlen : q.net.length = 256) (hkeys : ∀ n ∈ q.net, 0 ≤ n.c1 ∧ n.c1 ≤ 255) :
    (nqIndexBuild q).netindex = (List.range 256).map (netindexAt 0 q.net) := by
  have hperm := selectionSort_perm q.net.length q.net
  have hruns := netindexRuns_eq_map _ 0 0 0 (by rw [hperm.length_eq, hlen]) (fun n hn => hkeys n (hperm.mem_iff.mp hn))
    (selectionSort_sorted le_rfl)
  have hzero : netindexEntry 0 0 (selectionSort q.net.length q.net) 0 = netindexAt 0 (selectionSort q.net.length q.net) 0 := by
    rw [netindexAt, keysBelow_eq_zero fun n hn => (hkeys n (hperm.mem_iff.mp hn)).1]
  rw [hzero, ← List.map_cons, netindexAt_perm hperm] at hruns
  rw [List.range_eq_range']
  exact hruns

/-- A key below `g` is a key of at most `g`. -/
theorem keysBelow_le_keysUpto (net : List Neuron) (g : Nat) : keysBelow net g ≤ keysUpto net g :=
  List.countP_mono_left fun n _ h => by simp only [decide_eq_true_eq] at h ⊢; exact h.le

/-- Where no entry has key `g`, the two counts agree. -/
theorem keysBelow_eq_keysUpto {net : List Neuron} {g : Nat} (h : ¬ ∃ n ∈ net, n.c1 = (g : Int)) :
    keysBelow net g = keysUpto net g :=
  List.countP_congr fun n hn => by
    have hne : n.c1 ≠ g := fun heq => h ⟨n, hn, heq⟩
    simp only [decide_eq_true_eq]
    omega

/-- Settles O55: one turn of the sort at a time, and NETINDEX as one closed form per key. -/
theorem indexBuildSortsOnGreen : Obligations.IndexBuildSortsOnGreen := by
  refine ⟨fun q => ⟨selectionSort_perm _ _, selectionSort_sorted le_rfl⟩, fun q x xs hq => ?_, fun q hlen hkeys => ?_⟩
  · obtain ⟨p, least, hp, hleast, hfirst, hsort⟩ := selectionSort_succ_cons xs.length x xs
    refine ⟨p, least, hq ▸ hp, hq ▸ hleast, hq ▸ hfirst, ?_⟩
    have hrest : ((x :: xs).set p x).tail.length = xs.length := by simp
    simp only [nqIndexBuild_net, hq, hrest]
    exact hsort
  · dsimp only
    rw [nqIndexBuild_netindex hlen hkeys]
    refine ⟨by simp, fun g hg => ?_⟩
    have hle := keysBelow_le_keysUpto q.net g
    have hmax : keysUpto q.net g ≤ 256 := hlen ▸ List.countP_le_length
    refine ⟨(keysBelow q.net g + min (keysUpto q.net g) 255) / 2, ?_, by omega, fun _ => rfl, fun habsent => ?_⟩
    · rw [List.getElem?_map, List.getElem?_range hg, Option.map_some, netindexAt, netindexEntry, Nat.zero_add, Nat.zero_add]
      rfl
    · have heq := keysBelow_eq_keysUpto habsent
      show _ = min (keysBelow q.net g) 255
      omega

/-! ### The palette, R160 -/

/-- Three palette bytes per entry: the palette from an entry on is the palette of the entries from it on. -/
theorem nqPalette_drop (net : List Neuron) (p : Nat) : (nqPalette net).drop (3 * p) = nqPalette (net.drop p) := by
  induction p generalizing net with
  | zero => rfl
  | succ p ih =>
    cases net with
    | nil => rfl
    | cons n net => exact ih net

/-- The palette bytes of the entry at a position. -/
theorem nqPalette_take_drop {net : List Neuron} {p : Nat} {n : Neuron} (h : net[p]? = some n) :
    ((nqPalette net).drop (3 * p)).take 3 = neuronBytes n := by
  obtain ⟨hp, rfl⟩ := List.getElem?_eq_some_iff.mp h
  rw [nqPalette_drop, List.drop_eq_getElem_cons hp]
  rfl

/-- Settles O56: before the sort an entry stands where its colour number says, and the sort only reorders. -/
theorem paletteSurvivesIndexBuild : Obligations.PaletteSurvivesIndexBuild := by
  intro q hlen
  refine ⟨by rw [nqPalette_length, nqUnbias_net_length, hlen], fun n hn => ?_⟩
  obtain ⟨p, m, hm, hp, rfl⟩ := mem_nqUnbias ((selectionSort_perm _ _).mem_iff.mp hn)
  have hlt : p < 256 := hlen ▸ (List.getElem?_eq_some_iff.mp hm).1
  have hidx : (unbiasNeuron p m).idx.toNat = p := Nat.mod_eq_of_lt hlt
  rw [hidx]
  exact nqPalette_take_drop hp

/-! ### The lookup as a plain scan, R161 and R162 -/

/-- An entry replaces the best exactly when its whole distance is strictly less: the early test drops no better one. -/
theorem Match.examine_eq (m : Match) (y : Colour) (n : Neuron) :
    m.examine y n = if neuronDist y n < m.dist then { dist := neuronDist y n, idx := n.idx.toNat } else m := by
  have hdist : absInt (n.c1 - y.x1) + absInt (n.c0 - y.x0) + absInt (n.c2 - y.x2) = neuronDist y n := by
    rw [neuronDist, Int.add_comm (absInt (n.c1 - y.x1))]
  have hlast : 0 ≤ absInt (n.c2 - y.x2) := by rw [absInt_eq_natAbs]; omega
  rw [Match.examine]
  dsimp only
  rw [hdist]
  split
  · rfl
  · rw [if_neg (by omega)]

/-- The green channel alone is no more than the distance. -/
theorem green_le_neuronDist (y : Colour) (n : Neuron) : n.c1 - y.x1 ≤ neuronDist y n ∧ y.x1 - n.c1 ≤ neuronDist y n := by
  simp only [neuronDist, absInt_eq_natAbs]
  omega

/-- Two lists in turns, the first list first; when one ends, the rest of the other. -/
def alternate {α : Type} : List α → List α → List α
  | [], ds => ds
  | u :: us, [] => u :: us
  | u :: us, d :: ds => u :: d :: alternate us ds

section
variable {α β : Type}

/-- A list alone keeps its order. -/
theorem alternate_nil_right (us : List α) : alternate us [] = us := by cases us <;> rfl

/-- After one entry of the first list the second list is first. -/
theorem alternate_cons (u : α) (us ds : List α) : alternate (u :: us) ds = u :: alternate ds us := by
  induction us generalizing u ds with
  | nil => cases ds <;> simp only [alternate]
  | cons v us ih =>
    cases ds with
    | nil => rfl
    | cons d ds => rw [alternate, ih, alternate]

/-- The turns do not look at the entries. -/
theorem alternate_map (f : α → β) (us ds : List α) : alternate (us.map f) (ds.map f) = (alternate us ds).map f := by
  induction us, ds using alternate.induct with
  | case1 ds => rfl
  | case2 u us => rfl
  | case3 u us d ds ih => simp only [List.map_cons, alternate, ih]

/-- No entry is lost or added. -/
theorem mem_alternate {a : α} {us ds : List α} : a ∈ alternate us ds ↔ a ∈ us ∨ a ∈ ds := by
  induction us, ds using alternate.induct with
  | case1 ds => simp [alternate]
  | case2 u us => simp [alternate]
  | case3 u us d ds ih => simp only [alternate, List.mem_cons, ih]; tauto

/-- If the entries of the first list have the even places from `2 * k` on and those of the second the odd ones, the two lists in
turns stand in the order of their places. -/
theorem alternate_pairwise_place {place : α → Nat} {us ds : List α} {k : Nat}
    (hus : ∀ i a, us[i]? = some a → place a = 2 * (k + i))
    (hds : ∀ i a, ds[i]? = some a → place a = 2 * (k + i) + 1) : (alternate us ds).Pairwise fun a b => place a < place b := by
  induction us, ds using alternate.induct generalizing k with
  | case1 ds =>
    refine List.pairwise_iff_getElem.mpr fun i j hi hj hij => ?_
    rw [hds i _ (List.getElem?_eq_getElem hi), hds j _ (List.getElem?_eq_getElem hj)]
    omega
  | case2 u us =>
    refine List.pairwise_iff_getElem.mpr fun i j hi hj hij => ?_
    rw [hus i _ (List.getElem?_eq_getElem hi), hus j _ (List.getElem?_eq_getElem hj)]
    omega
  | case3 u us d ds ih =>
    have hu : place u = 2 * k := hus 0 u rfl
    have hd : place d = 2 * k + 1 := hds 0 d rfl
    have hus' (i : Nat) (a : α) (h : us[i]? = some a) : place a = 2 * (k + 1 + i) := by rw [hus (i + 1) a h]; omega
    have hds' (i : Nat) (a : α) (h : ds[i]? = some a) : place a = 2 * (k + 1 + i) + 1 := by rw [hds (i + 1) a h]; omega
    have hlater : ∀ a ∈ alternate us ds, 2 * k + 1 < place a := fun a ha => by
      rcases mem_alternate.mp ha with ha | ha
      · obtain ⟨i, hi⟩ := List.mem_iff_getElem?.mp ha
        rw [hus' i a hi]; omega
      · obtain ⟨i, hi⟩ := List.mem_iff_getElem?.mp ha
        rw [hds' i a hi]; omega
    refine List.pairwise_cons.mpr ⟨List.forall_mem_cons.mpr ⟨by omega, fun a ha => ?_⟩,
      List.pairwise_cons.mpr ⟨fun a ha => ?_, ih hus' hds'⟩⟩
    · exact hu.trans_lt ((Nat.lt_succ_self _).trans (hlater a ha))
    · exact hd.trans_lt (hlater a ha)

end

/-- The best so far never gets farther. -/
theorem Match.examine_dist_le (m : Match) (y : Colour) (n : Neuron) : (m.examine y n).dist ≤ m.dist := by
  rw [examine_eq]
  split
  next h => exact h.le
  next => exact le_rfl

/-- The scan of R161 without its stop tests. -/
def plainScan (y : Colour) (ns : List Neuron) (m : Match) : Match := ns.foldl (fun m n => m.examine y n) m

/-- A list whose entries are no nearer than the best so far adds nothing to a scan in turns. -/
theorem plainScan_alternate_of_far {y : Colour} {us ds : List Neuron} {m : Match} (h : ∀ n ∈ us, m.dist ≤ neuronDist y n) :
    plainScan y (alternate us ds) m = plainScan y ds m := by
  induction us, ds using alternate.induct generalizing m with
  | case1 ds => rfl
  | case2 u us => exact foldl_offer_eq_self (fun m n => m.examine_eq y n) h
  | case3 u us d ds ih =>
    obtain ⟨hu, hus⟩ := List.forall_mem_cons.mp h
    have hpass : m.examine y u = m := by rw [Match.examine_eq, if_neg (Int.not_lt.mpr hu)]
    simp only [plainScan, alternate, List.foldl_cons, hpass] at ih ⊢
    exact ih fun n hn => (m.examine_dist_le y d).trans (hus n hn)

/-- Half a turn of R161 on the list in its turn: its first entry is examined, or, where `ahead`, the signed difference of the stop
test, is no less than the best distance, the list is left for good. -/
def halfTurn (y : Colour) (ahead : Neuron → Int) (m : Match) : List Neuron → List Neuron × Match
  | [] => ([], m)
  | n :: ns => if ahead n ≥ m.dist then ([], m) else (ns, m.examine y n)

/-- A turn of the loop is a half turn upward and a half turn downward. -/
theorem nearestLoop_succ (y : Colour) (fuel : Nat) (up down : List Neuron) (m : Match) : nearestLoop y (fuel + 1) up down m =
    let afterUp := halfTurn y (fun n => n.c1 - y.x1) m up
    let afterDown := halfTurn y (fun n => y.x1 - n.c1) afterUp.2 down
    nearestLoop y fuel afterUp.1 afterDown.1 afterDown.2 := by
  cases up with
  | nil =>
    cases down with
    | nil => cases fuel <;> rfl
    | cons d ds => rfl
  | cons u us => cases down <;> rfl

section
variable {y : Colour} {ahead : Neuron → Int} {l : List Neuron} {m : Match}

/-- Half a turn shortens its list and keeps the order of the rest. -/
theorem halfTurn_sublist : (halfTurn y ahead m l).1.Sublist l.tail := by
  cases l with
  | nil => exact .refl _
  | cons n ns =>
    rw [halfTurn]
    split
    · exact List.nil_sublist _
    · exact .refl _

/-- A half turn is a step of the plain scan: what it leaves for good is behind an entry that is no nearer than the best so far,
in a list in which `ahead` does not fall. -/
theorem plainScan_halfTurn (hahead : ∀ n, ahead n ≤ neuronDist y n) (hl : l.Pairwise fun a b => ahead a ≤ ahead b)
    (other : List Neuron) : plainScan y (alternate l other) m
      = plainScan y (alternate other (halfTurn y ahead m l).1) (halfTurn y ahead m l).2 := by
  cases l with
  | nil => rw [halfTurn, alternate_nil_right]; rfl
  | cons n ns =>
    rw [halfTurn]
    split
    next hstop =>
      rw [alternate_nil_right]
      refine plainScan_alternate_of_far (List.forall_mem_cons.mpr ⟨hstop.le.trans (hahead n), fun a ha => ?_⟩)
      exact hstop.le.trans (((List.pairwise_cons.mp hl).1 a ha).trans (hahead a))
    next => rw [alternate_cons]; rfl

end

/-- The stop tests of R161 change nothing: the loop is the plain scan of the two lists in turns. -/
theorem nearestLoop_eq_plainScan (y : Colour) {fuel : Nat} {up down : List Neuron} (m : Match) (hup : up.length ≤ fuel)
    (hdown : down.length ≤ fuel) (hrise : up.Pairwise fun a b => a.c1 ≤ b.c1)
    (hfall : down.Pairwise fun a b => b.c1 ≤ a.c1) :
    nearestLoop y fuel up down m = plainScan y (alternate up down) m := by
  induction fuel generalizing up down m with
  | zero =>
    rw [List.length_eq_zero_iff.mp (Nat.le_zero.mp hup), List.length_eq_zero_iff.mp (Nat.le_zero.mp hdown)]
    rfl
  | succ fuel ih =>
    have hrise' : up.Pairwise fun a b => a.c1 - y.x1 ≤ b.c1 - y.x1 := hrise.imp fun h => by omega
    have hfall' : down.Pairwise fun a b => y.x1 - a.c1 ≤ y.x1 - b.c1 := hfall.imp fun h => by omega
    rw [plainScan_halfTurn (fun n => (green_le_neuronDist y n).1) hrise',
      plainScan_halfTurn (fun n => (green_le_neuronDist y n).2) hfall', nearestLoop_succ]
    dsimp only
    have hlen {l rest : List Neuron} (h : rest.Sublist l.tail) (hl : l.length ≤ fuel + 1) : rest.length ≤ fuel := by
      have := h.length_le
      rw [List.length_tail] at this
      omega
    exact ih _ (hlen halfTurn_sublist hup) (hlen halfTurn_sublist hdown)
      (hrise.sublist (halfTurn_sublist.trans (List.tail_sublist _)))
      (hfall.sublist (halfTurn_sublist.trans (List.tail_sublist _)))

/-- The place of position `k` in the alternating scan from `start`: even upward, odd downward. -/
def scanPlace (start k : Nat) : Nat := if start ≤ k then 2 * (k - start) else 2 * (start - 1 - k) + 1

/-- The positions below `n` as the scan from `start` visits them. -/
def scanOrder (start n : Nat) : List Nat := alternate (List.range' start (n - start)) (List.range start).reverse

/-- The scan comes to every position. -/
theorem mem_scanOrder {start n k : Nat} (hstart : start ≤ n) : k ∈ scanOrder start n ↔ k < n := by
  simp only [scanOrder, mem_alternate, List.mem_range'_1, List.mem_reverse, List.mem_range]
  omega

/-- It comes to the positions in the order of their places. -/
theorem scanOrder_pairwise (start n : Nat) : (scanOrder start n).Pairwise fun a b => scanPlace start a < scanPlace start b := by
  refine alternate_pairwise_place (k := 0) (fun i a h => ?_) (fun i a h => ?_)
  · obtain ⟨hi, rfl⟩ := List.getElem?_eq_some_iff.mp h
    rw [List.getElem_range', scanPlace, if_pos (by omega)]
    omega
  · obtain ⟨hi, rfl⟩ := List.getElem?_eq_some_iff.mp h
    rw [List.length_reverse, List.length_range] at hi
    rw [List.getElem_reverse, List.getElem_range, List.length_range, scanPlace, if_neg (by omega)]
    omega

/-- The lists of the lookup, by position. -/
theorem alternate_drop_take (net : List Neuron) (start : Nat) (hstart : start ≤ net.length) :
    alternate (net.drop start) (net.take start).reverse = (scanOrder start net.length).map fun k => net.getD k default := by
  have hup : net.drop start = (List.range' start (net.length - start)).map fun k => net.getD k default := by
    refine List.ext_getElem (by simp) fun i hi _ => ?_
    rw [List.length_drop] at hi
    simp only [List.getElem_drop, List.getElem_map, List.getElem_range', Nat.one_mul]
    exact (List.getD_eq_getElem _ _ (by omega)).symm
  have hdown : net.take start = (List.range start).map fun k => net.getD k default := by
    refine List.ext_getElem (by simp [hstart]) fun i hi _ => ?_
    rw [List.length_take] at hi
    simp only [List.getElem_take, List.getElem_map, List.getElem_range]
    exact (List.getD_eq_getElem _ _ (by omega)).symm
  rw [scanOrder, ← alternate_map, hup, hdown, List.map_reverse]

/-- The colour of three bytes that a lookup is given (R161). -/
def byteColour (r g b : Byte) : Colour := { x0 := r.toNat, x1 := g.toNat, x2 := b.toNat }

/-- The distances of R151 and of the statement are one. -/
theorem neuronDist_byteColour (n : Neuron) (r g b : Byte) : neuronDist (byteColour r g b) n = l1Dist n r g b := by
  simp only [neuronDist, absInt_eq_natAbs, byteColour, l1Dist, Nat.cast_add]

/-- Bytes are less than 1000 apart, the bound that a lookup starts from (R162). -/
theorem Neuron.InRange.l1Dist_lt {n : Neuron} (h : n.InRange 255) (r g b : Byte) : l1Dist n r g b < 1000 := by
  obtain ⟨h0, h0', h1, h1', h2, h2'⟩ := h
  have hr := r.isLt
  have hg := g.isLt
  have hb := b.isLt
  rw [l1Dist]
  omega

/-- A colour number found comes out as the byte it is. -/
theorem byteOfInt_natCast_toNat (b : Byte) : byteOfInt (b.toNat : Nat) = b := by
  rw [byteOfInt, BitVec.ofInt_natCast, BitVec.ofNat_toNat, BitVec.setWidth_eq]

/-- On 256 entries in order of green, the lookup is the plain scan of all positions in turns from its start position. -/
theorem nqNearest_eq_foldl {q : Quant} (hlen : q.net.length = 256) (hsorted : q.net.Pairwise fun a b => a.c1 ≤ b.c1)
    (r g b : Byte) : nqNearest q r g b = byteOfInt ((scanOrder (q.netindex.getD g.toNat 0).toNat 256).foldl
      (fun (m : Match) k => m.examine (byteColour r g b) (q.net.getD k default)) ⟨1000, -1⟩).idx := by
  have hstart : (q.netindex.getD g.toNat 0).toNat ≤ q.net.length := by
    have := (q.netindex.getD g.toNat 0).isLt
    omega
  have hscan := nearestLoop_eq_plainScan (byteColour r g b) (fuel := 256) (up := q.net.drop (q.netindex.getD g.toNat 0).toNat)
    (down := (q.net.take (q.netindex.getD g.toNat 0).toNat).reverse) { dist := 1000, idx := -1 } (by simp [hlen])
    (by simp [hlen]) (hsorted.sublist (List.drop_sublist _ _))
    (List.pairwise_reverse.mpr (hsorted.sublist (List.take_sublist _ _)))
  rw [alternate_drop_take _ _ hstart, hlen, plainScan, List.foldl_map] at hscan
  exact congrArg (fun m => byteOfInt m.idx) hscan

/-- Settles O57: the lookup is the plain scan, and a scan that keeps the first least candidate ends at one of least distance
that comes first. -/
theorem nearestHasLeastDistance : Obligations.NearestHasLeastDistance := by
  intro q r g b hlen hrange hsorted start turn
  have hget {k : Nat} (hk : k < 256) : q.net[k]? = some (q.net.getD k default) := by
    rw [List.getD_eq_getElem _ _ (hlen ▸ hk), List.getElem?_eq_getElem]
  have hstart : start ≤ 256 := (q.netindex.getD g.toNat 0).isLt.le
  have hnear : ∃ k ∈ scanOrder start 256, neuronDist (byteColour r g b) (q.net.getD k default) < 1000 := by
    refine ⟨0, (mem_scanOrder hstart).mpr (by decide), ?_⟩
    rw [neuronDist_byteColour]
    exact_mod_cast Neuron.InRange.l1Dist_lt (hrange _ (List.mem_of_getElem? (hget (by decide)))) r g b
  obtain ⟨p, hp, hend, hleast⟩ := foldl_offer_first_least (dist := Match.dist) (s := ⟨1000, -1⟩)
    (fun m k => m.examine_eq (byteColour r g b) (q.net.getD k default)) (fun _ => rfl) (scanOrder_pairwise start 256) hnear
  refine ⟨p, q.net.getD p default, hget ((mem_scanOrder hstart).mp hp), ?_, fun k m hm => ?_⟩
  · rw [nqNearest_eq_foldl hlen hsorted]
    exact (congrArg (fun m => byteOfInt m.idx) hend).trans (byteOfInt_natCast_toNat _)
  · obtain ⟨hk, rfl⟩ := List.getElem?_eq_some_iff.mp hm
    obtain ⟨hle, hties⟩ := hleast k ((mem_scanOrder hstart).mpr (hlen ▸ hk))
    rw [List.getD_eq_getElem _ _ hk, neuronDist_byteColour, neuronDist_byteColour] at hle hties
    refine ⟨by exact_mod_cast hle, fun heq => ?_⟩
    rcases hties (by exact_mod_cast heq) with rfl | hlt
    · exact le_rfl
    · exact hlt.le

end Sys2Proof.Machine
end

section
/-! PROOFS of the compressor family (42_lzw.md): the bit writer as a string of bits, the sub-block FIFO as a sequence of full
blocks, the codes of a frame apart from both, and the reader that follows them. -/

namespace Sys2Proof.Machine

/-! ### Numbers as bits, the least significant first -/

/-- The low `w` bits of `n`, the least significant first: a code of width `w` in the stream (R208). -/
def lsbBits (w n : Nat) : List Bool := (List.range w).map n.testBit

@[simp] theorem lsbBits_length (w n : Nat) : (lsbBits w n).length = w := by simp [lsbBits]

/-- The bits of a number split at any place. -/
theorem lsbBits_add (v w n : Nat) : lsbBits (v + w) n = lsbBits v n ++ lsbBits w (n >>> v) := by
  simp [lsbBits, List.range_add, Function.comp_def]

/-- Equal low bits, equal list. -/
theorem lsbBits_congr {w m n : Nat} (h : ∀ i < w, m.testBit i = n.testBit i) : lsbBits w m = lsbBits w n :=
  List.map_congr_left fun i hi => h i (List.mem_range.mp hi)

/-- Zero is a run of clear bits. -/
theorem lsbBits_zero (w : Nat) : lsbBits w 0 = List.replicate w false := by
  simp [lsbBits, List.eq_replicate_iff]

/-- A code put above the `v` bits already held follows them in the stream (R208). -/
theorem lsbBits_or_shiftLeft {v acc : Nat} (hacc : acc < 2 ^ v) (w code : Nat) :
    lsbBits (v + w) (acc ||| code <<< v) = lsbBits v acc ++ lsbBits w code := by
  have hlow : lsbBits v (acc ||| code <<< v) = lsbBits v acc :=
    lsbBits_congr fun i hi => by simp [Nat.testBit_shiftLeft, hi.not_ge]
  have hhigh : (acc ||| code <<< v) >>> v = code := by
    rw [Nat.shiftRight_or_distrib, Nat.shiftLeft_shiftRight, Nat.shiftRight_eq_zero _ _ hacc, Nat.zero_or]
  rw [lsbBits_add, hlow, hhigh]

/-- Above a number that fits its width there are only clear bits: the padding of the last byte (R210). -/
theorem lsbBits_add_of_lt {v acc : Nat} (hacc : acc < 2 ^ v) (w : Nat) :
    lsbBits (v + w) acc = lsbBits v acc ++ List.replicate w false := by
  rw [lsbBits_add, Nat.shiftRight_eq_zero _ _ hacc, lsbBits_zero]

/-- The reader's number is the one whose bits these are. -/
theorem codeOfBits_lsbBits (w n : Nat) : codeOfBits (lsbBits w n) = n % 2 ^ w := by
  induction w generalizing n with
  | zero => simp [lsbBits, codeOfBits, Nat.mod_one]
  | succ w ih =>
    have hcons : lsbBits (w + 1) n = n.testBit 0 :: lsbBits w (n / 2) := by
      simp [lsbBits, List.range_succ_eq_map, Function.comp_def, Nat.testBit_succ]
    rw [hcons, codeOfBits, ih, Nat.testBit_zero, Nat.pow_succ', Nat.mod_mul]
    rcases Nat.mod_two_eq_zero_or_one n with h | h <;> simp [h]

/-! ### Bytes as bits -/

theorem bitsOf_nil : bitsOf [] = [] := rfl
theorem bitsOf_cons (b : Byte) (data : List Byte) : bitsOf (b :: data) = lsbBits 8 b.toNat ++ bitsOf data := rfl
theorem bitsOf_append (a b : List Byte) : bitsOf (a ++ b) = bitsOf a ++ bitsOf b := List.flatMap_append

theorem bitsOf_length (data : List Byte) : (bitsOf data).length = 8 * data.length := by
  induction data with
  | nil => rfl
  | cons b data ih => rw [bitsOf_cons, List.length_append, ih, lsbBits_length, List.length_cons]; omega

/-- The bits tell the bytes. -/
theorem bitsOf_injective : Function.Injective bitsOf := by
  intro a b h
  induction a generalizing b with
  | nil =>
    have hlen := congrArg List.length h
    simp only [bitsOf_length, List.length_nil] at hlen
    exact (List.eq_nil_of_length_eq_zero (by omega)).symm
  | cons x a ih =>
    cases b with
    | nil => simpa [bitsOf_length] using congrArg List.length h
    | cons y b =>
      obtain ⟨hbyte, hrest⟩ := List.append_inj h (by simp)
      have hcode : codeOfBits (lsbBits 8 x.toNat) = codeOfBits (lsbBits 8 y.toNat) := congrArg codeOfBits hbyte
      rw [codeOfBits_lsbBits, codeOfBits_lsbBits, Nat.mod_eq_of_lt x.isLt, Nat.mod_eq_of_lt y.isLt] at hcode
      rw [BitVec.eq_of_toNat_eq hcode, ih hrest]

/-- A stream padded to whole bytes with fewer than 8 bits is the bits of one byte sequence only. -/
theorem bytes_of_padded_bits_unique {stream : List Bool} {a b : List Byte} {m n : Nat} (hm : m < 8) (hn : n < 8)
    (ha : bitsOf a = stream ++ List.replicate m false) (hb : bitsOf b = stream ++ List.replicate n false) : a = b := by
  have hla := congrArg List.length ha
  have hlb := congrArg List.length hb
  simp only [bitsOf_length, List.length_append, List.length_replicate] at hla hlb
  obtain rfl : m = n := by omega
  exact bitsOf_injective (ha.trans hb.symm)

/-! ### The sub-block FIFO, R211 to R213 -/

/-- One data sub-block: its length byte, then its bytes (R212). -/
def dataBlock (b : List Byte) : List Byte := byteOfNat b.length :: b

/-- What is left in PKT at the end leaves as one block, if anything is left (R212). -/
def lastBlock (pkt : List Byte) : List Byte := if pkt = [] then [] else dataBlock pkt

/-- Putting `bytes` into the FIFO turns PKT from `pkt` into `pkt'` and appends `out`: the blocks that left are full, and PKT holds
less than one (R211). -/
def Emits (limit : Nat) (pkt bytes pkt' out : List Byte) : Prop :=
  ∃ blocks : List (List Byte), (∀ b ∈ blocks, b.length = limit) ∧ pkt ++ bytes = blocks.flatten ++ pkt'
    ∧ out = blocks.flatMap dataBlock ∧ pkt'.length < limit

theorem Emits.nil {limit : Nat} {pkt : List Byte} (h : pkt.length < limit) : Emits limit pkt [] pkt [] :=
  ⟨[], nofun, by simp, rfl, h⟩

theorem Emits.trans {limit : Nat} {p bs p' out bs' p'' out' : List Byte} (h : Emits limit p bs p' out)
    (h' : Emits limit p' bs' p'' out') : Emits limit p (bs ++ bs') p'' (out ++ out') := by
  obtain ⟨blocks, hfull, hdata, rfl, -⟩ := h
  obtain ⟨blocks', hfull', hdata', rfl, hlt⟩ := h'
  refine ⟨blocks ++ blocks', fun b hb => (List.mem_append.mp hb).elim (hfull b) (hfull' b), ?_, by simp, hlt⟩
  rw [← List.append_assoc, hdata, List.append_assoc, hdata', List.flatten_append, List.append_assoc]

theorem Emits.pkt_length_lt {limit : Nat} {pkt bytes pkt' out : List Byte} (h : Emits limit pkt bytes pkt' out) :
    pkt'.length < limit := by
  obtain ⟨-, -, -, -, hlt⟩ := h
  exact hlt

/-- A flush empties PKT and nothing else. -/
theorem lzwFlushPacket_eq (l : Lzw) : lzwFlushPacket l = ({ l with pkt := [] }, lastBlock l.pkt) := by
  unfold lzwFlushPacket lastBlock dataBlock
  cases hp : l.pkt with
  | nil => simp [← hp]
  | cons b rest => simp

/-- One byte into the FIFO (R211). -/
theorem lzwByte_emits {limit : Nat} (b : Byte) {l : Lzw} (hlt : l.pkt.length < limit) :
    Emits limit l.pkt [b] (lzwByte limit b l).1.pkt (lzwByte limit b l).2 := by
  simp only [lzwByte, lzwFlushPacket_eq]
  split
  · rename_i hfull
    refine ⟨[l.pkt ++ [b]], ?_, by simp, by simp [lastBlock], by simp; omega⟩
    simp only [List.length_append, List.length_singleton, List.mem_singleton, forall_eq] at hfull ⊢
    omega
  · rename_i hfree
    exact ⟨[], nofun, by simp, rfl, by simpa using hfree⟩

theorem subBlocks_nil (limit fuel : Nat) : subBlocks limit fuel [] = [] := by cases fuel <;> rfl

theorem subBlocks_succ (limit fuel : Nat) {data : List Byte} (h : data ≠ []) :
    subBlocks limit (fuel + 1) data = dataBlock (data.take limit) ++ subBlocks limit fuel (data.drop limit) := by
  cases data with
  | nil => exact absurd rfl h
  | cons x xs => rfl

/-- Full blocks and a last one are the data cut as R213 says. -/
theorem subBlocks_flatten {limit : Nat} {blocks : List (List Byte)} (hfull : ∀ b ∈ blocks, b.length = limit) {last : List Byte}
    (hlast : last.length < limit) {fuel : Nat} (hfuel : (blocks.flatten ++ last).length ≤ fuel) :
    subBlocks limit fuel (blocks.flatten ++ last) = blocks.flatMap dataBlock ++ lastBlock last := by
  induction blocks generalizing fuel with
  | nil =>
    by_cases hnil : last = []
    · simp [hnil, subBlocks_nil, lastBlock]
    · obtain ⟨n, rfl⟩ := Nat.exists_eq_add_of_le' ((List.length_pos_of_ne_nil hnil).trans_le hfuel)
      simp [subBlocks_succ _ _ hnil, List.take_of_length_le hlast.le, List.drop_of_length_le hlast.le, subBlocks_nil, lastBlock,
        hnil]
  | cons b blocks ih =>
    obtain ⟨rfl, hfull⟩ := List.forall_mem_cons.mp hfull
    have hpos : 0 < b.length := hlast.trans_le' (Nat.zero_le _)
    rw [List.flatten_cons, List.append_assoc] at hfuel ⊢
    rw [List.length_append] at hfuel
    obtain ⟨n, rfl⟩ := Nat.exists_eq_add_of_le' (show 1 ≤ fuel by omega)
    rw [subBlocks_succ _ _ (List.append_ne_nil_of_left_ne_nil (List.ne_nil_of_length_pos hpos) _), List.take_left, List.drop_left,
      ih hfull (by omega), List.flatMap_cons, List.append_assoc]

/-- A reader takes one block whole. -/
theorem deframe_dataBlock (n : Nat) {b : List Byte} (hne : b ≠ []) (hle : b.length ≤ 255) (rest : List Byte) :
    deframe (n + 1) (dataBlock b ++ rest) = b ++ deframe n rest := by
  have hlen : (byteOfNat b.length).toNat = b.length := by
    rw [byteOfNat, BitVec.toNat_ofNat, Nat.mod_eq_of_lt (by omega)]
  have hnz : byteOfNat b.length ≠ 0 := fun h0 => by
    rw [h0] at hlen
    exact hne (List.eq_nil_of_length_eq_zero hlen.symm)
  rw [dataBlock, List.cons_append, deframe, if_neg hnz, hlen, List.take_left, List.drop_left]

/-- Reading the blocks back gives the data. -/
theorem deframe_subBlocks {limit : Nat} (hpos : 1 ≤ limit) (hle : limit ≤ 255) {fuel n : Nat} {data : List Byte}
    (hfuel : data.length ≤ fuel) (hn : (subBlocks limit fuel data).length ≤ n) : deframe n (subBlocks limit fuel data) = data := by
  induction fuel generalizing n data with
  | zero =>
    obtain rfl := List.eq_nil_of_length_eq_zero (Nat.le_zero.mp hfuel)
    cases n <;> rfl
  | succ fuel ih =>
    by_cases hnil : data = []
    · subst hnil
      cases n <;> rfl
    · have hlen := List.length_pos_of_ne_nil hnil
      have htake : (data.take limit).length = min limit data.length := List.length_take
      rw [subBlocks_succ _ _ hnil] at hn ⊢
      rw [List.length_append, dataBlock, List.length_cons] at hn
      obtain ⟨m, rfl⟩ := Nat.exists_eq_add_of_le' (show 1 ≤ n by omega)
      rw [deframe_dataBlock _ (List.ne_nil_of_length_pos (by omega)) (by omega), ih (by rw [List.length_drop]; omega) (by omega),
        List.take_append_drop]

/-! ### The bit writer, R208 to R210 -/

/-- The bits that ACC still holds. -/
def Lzw.pending (l : Lzw) : List Bool := lsbBits l.accBits l.acc.toNat

/-- The bit writer between two outputs (R51): less than a byte in ACC and nothing above it, a width of 9 to 12 and its MAXCODE. -/
structure Lzw.Ready (l : Lzw) : Prop where
  accBits_le : l.accBits ≤ 7
  acc_lt : l.acc.toNat < 2 ^ l.accBits
  le_nBits : 9 ≤ l.nBits
  nBits_le : l.nBits ≤ 12
  freeEnt_le : l.freeEnt ≤ 4096
  maxcode_eq : l.maxcode = if l.nBits = 12 then 4096 else 2 ^ l.nBits - 1

/-- From state `l` the result `r` has put `bits` on the stream: the bytes that went to the FIFO are the bits held before and the
new ones, but for those still held. -/
def Writes (limit : Nat) (l : Lzw) (bits : List Bool) (r : Lzw × List Byte) : Prop :=
  ∃ bytes, l.pending ++ bits = bitsOf bytes ++ r.1.pending ∧ Emits limit l.pkt bytes r.1.pkt r.2

theorem Writes.trans {limit : Nat} {l : Lzw} {bits bits' : List Bool} {r r' : Lzw × List Byte} (h : Writes limit l bits r)
    (h' : Writes limit r.1 bits' r') : Writes limit l (bits ++ bits') (r'.1, r.2 ++ r'.2) := by
  obtain ⟨bytes, hbits, hemits⟩ := h
  obtain ⟨bytes', hbits', hemits'⟩ := h'
  refine ⟨bytes ++ bytes', ?_, hemits.trans hemits'⟩
  rw [← List.append_assoc, hbits, List.append_assoc, hbits', bitsOf_append, List.append_assoc]

theorem Writes.nil {limit : Nat} {l l' : Lzw} (hpending : l'.pending = l.pending) (hpkt : l'.pkt = l.pkt)
    (hlt : l.pkt.length < limit) : Writes limit l [] (l', []) :=
  ⟨[], by simp [bitsOf_nil, hpending], by simpa only [hpkt] using Emits.nil hlt⟩

theorem Writes.pkt_length_lt {limit : Nat} {l : Lzw} {bits : List Bool} {r : Lzw × List Byte} (h : Writes limit l bits r) :
    r.1.pkt.length < limit := by
  obtain ⟨_, -, hemits⟩ := h
  exact hemits.pkt_length_lt

/-- From state `l` the stream ends with `bits`: padded to a whole byte they went to the FIFO, and its rest left as the last block
(R210, R212). -/
def Ends (limit : Nat) (l : Lzw) (bits : List Bool) (out : List Byte) : Prop :=
  ∃ bytes pkt full, ∃ pad < 8, l.pending ++ bits ++ List.replicate pad false = bitsOf bytes ∧ Emits limit l.pkt bytes pkt full
    ∧ out = full ++ lastBlock pkt

theorem Writes.ends {limit : Nat} {l : Lzw} {bits bits' : List Bool} {r : Lzw × List Byte} {out : List Byte}
    (h : Writes limit l bits r) (h' : Ends limit r.1 bits' out) : Ends limit l (bits ++ bits') (r.2 ++ out) := by
  obtain ⟨bytes, hbits, hemits⟩ := h
  obtain ⟨bytes', pkt, full, pad, hpad, hbits', hemits', rfl⟩ := h'
  refine ⟨bytes ++ bytes', pkt, r.2 ++ full, pad, hpad, ?_, hemits.trans hemits', by rw [List.append_assoc]⟩
  rw [← List.append_assoc l.pending, hbits, bitsOf_append, ← hbits']
  simp only [List.append_assoc]

/-- The FIFO does not touch the accumulator. -/
theorem lzwShiftOut_acc (limit : Nat) (l : Lzw) : (lzwShiftOut limit l).1.acc = l.acc >>> 8
    ∧ (lzwShiftOut limit l).1.accBits = l.accBits - 8 := by
  simp only [lzwShiftOut, lzwByte, lzwFlushPacket_eq]
  split <;> exact ⟨rfl, rfl⟩

/-- `n` turns of the byte loop shift ACC by `n` bytes. -/
theorem lzwDrain_acc (limit n : Nat) (l : Lzw) : (lzwDrain limit n l).1.acc.toNat = l.acc.toNat >>> (8 * n)
    ∧ (lzwDrain limit n l).1.accBits = l.accBits - 8 * n := by
  induction n generalizing l with
  | zero => exact ⟨rfl, rfl⟩
  | succ n ih =>
    obtain ⟨hacc, hbits⟩ := ih (lzwShiftOut limit l).1
    obtain ⟨hacc', hbits'⟩ := lzwShiftOut_acc limit l
    rw [lzwDrain, hacc, hbits, hacc', hbits', BitVec.toNat_ushiftRight, ← Nat.shiftRight_add, Nat.sub_sub,
      show 8 + 8 * n = 8 * (n + 1) by omega]
    exact ⟨rfl, rfl⟩

/-- They give the FIFO the low `n` bytes of ACC. -/
theorem lzwDrain_emits {limit : Nat} (n : Nat) {l : Lzw} (hlt : l.pkt.length < limit) :
    ∃ bytes, bitsOf bytes = lsbBits (8 * n) l.acc.toNat
      ∧ Emits limit l.pkt bytes (lzwDrain limit n l).1.pkt (lzwDrain limit n l).2 := by
  induction n generalizing l with
  | zero => exact ⟨[], rfl, Emits.nil hlt⟩
  | succ n ih =>
    have hbyte : Emits limit l.pkt [l.acc.extractLsb' 0 8] (lzwShiftOut limit l).1.pkt (lzwShiftOut limit l).2 :=
      lzwByte_emits _ hlt
    obtain ⟨bytes, hbits, hrest⟩ := ih hbyte.pkt_length_lt
    refine ⟨l.acc.extractLsb' 0 8 :: bytes, ?_, hbyte.trans hrest⟩
    have hlow : lsbBits 8 (l.acc.extractLsb' 0 8).toNat = lsbBits 8 l.acc.toNat :=
      lsbBits_congr fun i hi => by
        rw [BitVec.extractLsb'_toNat, Nat.testBit_mod_two_pow, decide_eq_true hi, Bool.true_and, Nat.shiftRight_zero]
    rw [bitsOf_cons, hbits, hlow, (lzwShiftOut_acc limit l).1, BitVec.toNat_ushiftRight, ← lsbBits_add,
      show 8 + 8 * n = 8 * (n + 1) by omega]

section
variable {limit code : Nat} {l : Lzw}

/-- The code goes above the bits already held; nothing is cut off, since they fit 19 bits. -/
theorem pack_acc_toNat (h : l.Ready) (hcode : code < 2 ^ l.nBits) :
    (l.acc ||| (BitVec.ofNat 32 code <<< l.accBits)).toNat = l.acc.toNat ||| code <<< l.accBits := by
  have h12 : code < 2 ^ 12 := hcode.trans_le (Nat.pow_le_pow_right two_pos h.nBits_le)
  have hshift : code <<< l.accBits < 2 ^ 32 :=
    (Nat.shiftLeft_lt h12).trans_le (Nat.pow_le_pow_right two_pos (by have := h.accBits_le; omega))
  rw [BitVec.toNat_or, BitVec.toNat_shiftLeft, BitVec.toNat_ofNat, Nat.mod_eq_of_lt (h12.trans (by decide)), Nat.mod_eq_of_lt hshift]

/-- Packing a code writes its bits (R208). -/
theorem lzwPack_writes (h : l.Ready) (hlt : l.pkt.length < limit) (hcode : code < 2 ^ l.nBits) :
    Writes limit l (lsbBits l.nBits code) (lzwPack limit code l) := by
  obtain ⟨bytes, hbits, hemits⟩ := lzwDrain_emits ((l.accBits + l.nBits) / 8) (limit := limit)
    (l := { l with acc := l.acc ||| (BitVec.ofNat 32 code <<< l.accBits), accBits := l.accBits + l.nBits }) hlt
  refine ⟨bytes, ?_, hemits⟩
  have hsplit : l.accBits + l.nBits
      = 8 * ((l.accBits + l.nBits) / 8) + (l.accBits + l.nBits - 8 * ((l.accBits + l.nBits) / 8)) := by omega
  rw [hbits, Lzw.pending, Lzw.pending, lzwPack, (lzwDrain_acc _ _ _).1, (lzwDrain_acc _ _ _).2, ← lsbBits_add, ← hsplit,
    pack_acc_toNat h hcode, lsbBits_or_shiftLeft h.acc_lt]

/-- Packing changes ACC, ACC_BITS and PKT alone. -/
theorem lzwPack_eq (limit code : Nat) (l : Lzw) : (lzwPack limit code l).1 = { l with
    acc := (lzwPack limit code l).1.acc, accBits := (lzwPack limit code l).1.accBits, pkt := (lzwPack limit code l).1.pkt } :=
  lzwDrain_eq _ _ _

/-- Whole bytes leave, so that less than one stays. -/
theorem Lzw.Ready.pack (h : l.Ready) (hcode : code < 2 ^ l.nBits) : (lzwPack limit code l).1.Ready := by
  have hacc : (lzwPack limit code l).1.acc.toNat = (l.acc.toNat ||| code <<< l.accBits) >>> (8 * ((l.accBits + l.nBits) / 8)) := by
    rw [← pack_acc_toNat h hcode]
    exact (lzwDrain_acc _ _ _).1
  have hbits : (lzwPack limit code l).1.accBits = l.accBits + l.nBits - 8 * ((l.accBits + l.nBits) / 8) := (lzwDrain_acc _ _ _).2
  have hfits : l.acc.toNat ||| code <<< l.accBits < 2 ^ (l.accBits + l.nBits) :=
    Nat.or_lt_two_pow (h.acc_lt.trans_le (Nat.pow_le_pow_right two_pos (Nat.le_add_right _ _)))
      ((Nat.shiftLeft_lt hcode).trans_eq (by rw [Nat.add_comm]))
  rw [lzwPack_eq]
  refine { h with accBits_le := ?_, acc_lt := ?_ }
  · rw [hbits]
    omega
  · rw [hacc, hbits, Nat.shiftRight_eq_div_pow, Nat.div_lt_iff_lt_mul (Nat.two_pow_pos _), ← Nat.pow_add,
      Nat.sub_add_cancel (Nat.mul_div_le _ _)]
    exact hfits

/-- The width of the next code, one more where FREE_ENT no longer fits (R209). -/
def grownWidth (freeEnt width : Nat) : Nat := if width < 12 ∧ 2 ^ width ≤ freeEnt then width + 1 else width

/-- MAXCODE is passed exactly when FREE_ENT does not fit a width that can still grow. -/
theorem Lzw.Ready.maxcode_lt_iff (h : l.Ready) : l.freeEnt > l.maxcode ↔ l.nBits < 12 ∧ 2 ^ l.nBits ≤ l.freeEnt := by
  obtain ⟨-, -, -, hle, hfree, hmax⟩ := h
  have hpos := Nat.two_pow_pos l.nBits
  rw [hmax]
  split <;> omega

/-- LZW_Width changes the width, MAXCODE and CLEAR_FLG alone. -/
theorem Lzw.Ready.width_eq (h : l.Ready) : lzwWidth l = { l with
    nBits := if l.clearFlg then 9 else grownWidth l.freeEnt l.nBits, maxcode := (lzwWidth l).maxcode, clearFlg := false } := by
  have hgrow := h.maxcode_lt_iff
  unfold lzwWidth grownWidth
  by_cases hclear : l.clearFlg = true
  · rw [if_pos hclear, if_pos hclear]
    rfl
  · rw [if_neg hclear, if_neg hclear, ← Bool.eq_false_of_not_eq_true hclear]
    by_cases hmax : l.freeEnt > l.maxcode
    · rw [if_pos hmax, if_pos (hgrow.mp hmax)]
    · rw [if_neg hmax, if_neg (mt hgrow.mpr hmax)]

theorem Lzw.Ready.width (h : l.Ready) : (lzwWidth l).Ready := by
  have hgrow := h.maxcode_lt_iff
  unfold lzwWidth
  split
  · exact { h with le_nBits := le_refl 9, nBits_le := Nat.le_add_right 9 3, maxcode_eq := rfl }
  · split
    next hmax =>
      exact { h with le_nBits := h.le_nBits.trans (Nat.le_succ _), nBits_le := (hgrow.mp hmax).1, maxcode_eq := rfl }
    next => exact h

/-- An output before the last packs a code and updates the width (R208). -/
theorem lzwOutput_of_ne_eoi (hne : code ≠ 257) (limit : Nat) (l : Lzw) :
    lzwOutput limit code l = (lzwWidth (lzwPack limit code l).1, (lzwPack limit code l).2) := if_neg hne

/-- The EOI code is followed by the final flush (R210). -/
theorem lzwOutput_eoi (limit : Nat) (l : Lzw) : lzwOutput limit 257 l
    = ((lzwFinalFlush limit (lzwWidth (lzwPack limit 257 l).1)).1,
      (lzwPack limit 257 l).2 ++ (lzwFinalFlush limit (lzwWidth (lzwPack limit 257 l).1)).2) := rfl

/-- LZW_Width writes nothing. -/
theorem Lzw.Ready.width_writes (h : l.Ready) (hlt : l.pkt.length < limit) : Writes limit l [] (lzwWidth l, []) := by
  apply Writes.nil _ _ hlt <;> rw [h.width_eq]
  rfl

/-- An output writes its code at the width it finds. -/
theorem lzwOutput_writes (h : l.Ready) (hlt : l.pkt.length < limit) (hcode : code < 2 ^ l.nBits) (hne : code ≠ 257) :
    Writes limit l (lsbBits l.nBits code) (lzwOutput limit code l) := by
  have hpack := lzwPack_writes h hlt hcode
  rw [lzwOutput_of_ne_eoi hne]
  simpa using hpack.trans ((h.pack hcode).width_writes hpack.pkt_length_lt)

/-- The final flush empties ACC and PKT, and touches nothing else. -/
theorem Lzw.Ready.finalFlush_eq (h : l.Ready) (limit : Nat) :
    (lzwFinalFlush limit l).1 = { l with acc := 0, accBits := 0, pkt := [] } := by
  have hle := h.accBits_le
  obtain ⟨hacc, hbits⟩ := lzwDrain_acc limit ((l.accBits + 7) / 8) l
  have hzero : l.acc.toNat >>> (8 * ((l.accBits + 7) / 8)) = 0 :=
    Nat.shiftRight_eq_zero _ _ (h.acc_lt.trans_le (Nat.pow_le_pow_right two_pos (by omega)))
  rw [lzwFinalFlush, lzwFlushPacket_eq, lzwDrain_eq, BitVec.eq_of_toNat_eq (hacc.trans hzero : _ = (0 : Word).toNat), hbits,
    show l.accBits - 8 * ((l.accBits + 7) / 8) = 0 by omega]

/-- The final flush ends the stream with the bits that are held. -/
theorem Lzw.Ready.finalFlush_ends (h : l.Ready) (hlt : l.pkt.length < limit) : Ends limit l [] (lzwFinalFlush limit l).2 := by
  obtain ⟨bytes, hbits, hemits⟩ := lzwDrain_emits ((l.accBits + 7) / 8) hlt
  refine ⟨bytes, _, _, 8 * ((l.accBits + 7) / 8) - l.accBits, by omega, ?_, hemits, by rw [lzwFinalFlush, lzwFlushPacket_eq]⟩
  rw [hbits, List.append_nil, Lzw.pending, ← lsbBits_add_of_lt h.acc_lt]
  congr 1
  omega

/-- The EOI code ends the stream. -/
theorem lzwOutput_eoi_ends (h : l.Ready) (hlt : l.pkt.length < limit) (hcode : 257 < 2 ^ l.nBits) :
    Ends limit l (lsbBits l.nBits 257) (lzwOutput limit 257 l).2 := by
  have hpack := lzwPack_writes h hlt hcode
  have hwidth := hpack.trans ((h.pack hcode).width_writes hpack.pkt_length_lt)
  rw [lzwOutput_eoi]
  simpa using hwidth.ends ((h.pack hcode).width.finalFlush_ends hwidth.pkt_length_lt)

/-- Every output keeps the bit writer's bounds. -/
theorem lzwOutput_ready (h : l.Ready) (hcode : code < 2 ^ l.nBits) : (lzwOutput limit code l).1.Ready := by
  have hwidth := (h.pack (limit := limit) hcode).width
  by_cases hne : code = 257
  · subst hne
    rw [lzwOutput_eoi, hwidth.finalFlush_eq]
    exact { hwidth with accBits_le := Nat.zero_le _, acc_lt := one_pos }
  · rw [lzwOutput_of_ne_eoi hne]
    exact hwidth

/-- Every output leaves less than a block in the FIFO. -/
theorem lzwOutput_pkt_length_lt (h : l.Ready) (hlt : l.pkt.length < limit) (hcode : code < 2 ^ l.nBits) :
    (lzwOutput limit code l).1.pkt.length < limit := by
  by_cases hne : code = 257
  · subst hne
    rw [lzwOutput_eoi, (h.pack hcode).width.finalFlush_eq]
    exact hlt.trans_le' (Nat.zero_le _)
  · exact (lzwOutput_writes h hlt hcode hne).pkt_length_lt

/-- LZW_Init leaves the bit writer empty, at width 9. -/
theorem lzwInit_ready (l : Lzw) : (lzwInit l).Ready :=
  { accBits_le := Nat.zero_le _, acc_lt := one_pos, le_nBits := le_refl 9, nBits_le := Nat.le_add_right 9 3,
    freeEnt_le := Nat.le_add_right 258 3838, maxcode_eq := rfl }

end

/-- Settles O58: packing, the width and the final flush each keep the bounds. -/
theorem bitWriterStaysInBounds : Obligations.BitWriterStaysInBounds := by
  unfold Obligations.BitWriterStaysInBounds
  intro ready
  have hiff (l : Lzw) : ready l ↔ l.Ready :=
    ⟨fun ⟨hbits, hacc, hge, hle, hfree, hmax⟩ => ⟨hbits, hacc, hge, hle, hfree, hmax⟩,
      fun ⟨hbits, hacc, hge, hle, hfree, hmax⟩ => ⟨hbits, hacc, hge, hle, hfree, hmax⟩⟩
  refine ⟨fun l => ⟨(hiff _).mpr (lzwInit_ready l), rfl⟩, fun limit code l _ _ hready hlt hcode => ?_⟩
  have h := (hiff l).mp hready
  refine ⟨(hiff _).mpr (lzwOutput_ready h hcode), lzwOutput_pkt_length_lt h hlt hcode, ?_⟩
  rintro rfl
  rw [lzwOutput_eoi, (h.pack hcode).width.finalFlush_eq]
  exact ⟨rfl, rfl⟩

/-! ### The codes of a frame, apart from the bit writer (R202 to R207) -/

/-- What the choice of codes depends on: the dictionary, the next free code, the width of the next code and the code pending. -/
structure Coder where
  /-- DICT. -/
  dict : List DictEntry
  /-- FREE_ENT. -/
  freeEnt : Nat
  /-- N_BITS. -/
  width : Nat
  /-- ENT, the code pending. -/
  ent : Nat

/-- The part of the LZW state that chooses codes. -/
def Lzw.coder (l : Lzw) : Coder := { dict := l.dict, freeEnt := l.freeEnt, width := l.nBits, ent := l.ent }

/-- After a Clear, with the pending symbol `c`. -/
def Coder.start (c : Byte) : Coder := { dict := [], freeEnt := 258, width := 9, ent := c.toNat }

/-- The pending code as bits of the stream. -/
def Coder.pendingBits (k : Coder) : List Bool := lsbBits k.width k.ent

/-- The width of the code after the pending one. -/
def Coder.nextWidth (k : Coder) : Nat := grownWidth k.freeEnt k.width

/-- The pending code has been put out, and its string with `c` after it gets the next free code (R205). -/
def Coder.learn (c : Byte) (k : Coder) : Coder :=
  { dict := { pre := k.ent, suffix := c, code := k.freeEnt } :: k.dict, freeEnt := k.freeEnt + 1, width := k.nextWidth
    ent := c.toNat }

/-- One symbol: the coder after it and the bits of the codes it puts out (R202). -/
def Coder.symbol (c : Byte) (k : Coder) : Coder × List Bool :=
  match dictFind k.dict k.ent c with
  | some code => ({ k with ent := code }, [])
  | none =>
    if k.freeEnt < 4096 then (k.learn c, k.pendingBits) else (Coder.start c, k.pendingBits ++ lsbBits k.nextWidth 256)

/-- The bits of the symbols that are left, with the last pending code and EOI (R207). -/
def Coder.stream : List Byte → Coder → List Bool
  | [], k => k.pendingBits ++ lsbBits k.nextWidth 257
  | c :: cs, k => (k.symbol c).2 ++ stream cs (k.symbol c).1

/-- The bits of a frame: the opening Clear (R203), then its symbols. -/
def frameBits (idx : List Byte) : List Bool := lsbBits 9 256 ++ (Coder.start (idx.headD 0)).stream idx.tail

theorem Coder.stream_cons (c : Byte) (cs : List Byte) (k : Coder) :
    k.stream (c :: cs) = (k.symbol c).2 ++ (k.symbol c).1.stream cs := rfl

theorem Coder.symbol_found {k : Coder} {c : Byte} {code : Nat} (h : dictFind k.dict k.ent c = some code) :
    k.symbol c = ({ k with ent := code }, []) := by rw [Coder.symbol, h]

theorem Coder.symbol_learn {k : Coder} {c : Byte} (h : dictFind k.dict k.ent c = none) (hfree : k.freeEnt < 4096) :
    k.symbol c = (k.learn c, k.pendingBits) := by rw [Coder.symbol, h]; exact if_pos hfree

theorem Coder.symbol_full {k : Coder} {c : Byte} (h : dictFind k.dict k.ent c = none) (hfull : ¬ k.freeEnt < 4096) :
    k.symbol c = (Coder.start c, k.pendingBits ++ lsbBits k.nextWidth 256) := by rw [Coder.symbol, h]; exact if_neg hfull

/-! ### Every code fits its width -/

/-- A code that stands for a string: below FREE_ENT, and neither Clear nor EOI (R215). -/
structure ValidCode (freeEnt code : Nat) : Prop where
  lt : code < freeEnt
  ne_clear : code ≠ 256
  ne_eoi : code ≠ 257

/-- The codes in use fit the width, and the pending code and the dictionary's codes stand for strings. -/
structure Coder.Fits (k : Coder) : Prop where
  le_freeEnt : 258 ≤ k.freeEnt
  freeEnt_le : k.freeEnt ≤ 4096
  le_width : 9 ≤ k.width
  width_le : k.width ≤ 12
  freeEnt_fits : k.freeEnt ≤ 2 ^ k.width
  ent_valid : ValidCode k.freeEnt k.ent
  dict_valid : ∀ e ∈ k.dict, ValidCode k.freeEnt e.code

theorem validCode_symbol (c : Byte) : ValidCode 258 c.toNat := by
  have := c.isLt
  exact ⟨c.isLt.trans (by decide : 256 < 258), by omega, by omega⟩

theorem ValidCode.mono {m n code : Nat} (h : ValidCode m code) (hle : m ≤ n) : ValidCode n code :=
  { h with lt := h.lt.trans_le hle }

theorem Coder.start_fits (c : Byte) : (Coder.start c).Fits :=
  { le_freeEnt := le_refl 258, freeEnt_le := Nat.le_add_right 258 3838, le_width := le_refl 9, width_le := Nat.le_add_right 9 3
    freeEnt_fits := Nat.le_add_right 258 254, ent_valid := validCode_symbol c, dict_valid := nofun }

section
variable {k : Coder}

theorem Coder.Fits.ent_lt (h : k.Fits) : k.ent < 2 ^ k.width := h.ent_valid.lt.trans_le h.freeEnt_fits

/-- Clear and EOI fit every width. -/
theorem lt_two_pow_of_le_257 {code w : Nat} (hcode : code ≤ 257) (hw : 9 ≤ w) : code < 2 ^ w :=
  (show code < 2 ^ 9 by omega).trans_le (Nat.pow_le_pow_right two_pos hw)

theorem Coder.Fits.le_nextWidth (h : k.Fits) : 9 ≤ k.nextWidth := by
  have := h.le_width
  unfold Coder.nextWidth grownWidth
  split <;> omega

theorem Coder.Fits.nextWidth_le (h : k.Fits) : k.nextWidth ≤ 12 := by
  have := h.width_le
  unfold Coder.nextWidth grownWidth
  split <;> omega

/-- The width grows before a code that needs it is given out (R209). -/
theorem Coder.Fits.freeEnt_lt_nextWidth (h : k.Fits) (hfree : k.freeEnt < 4096) : k.freeEnt < 2 ^ k.nextWidth := by
  have hfits := h.freeEnt_fits
  unfold Coder.nextWidth grownWidth
  split
  · rw [Nat.pow_succ]
    have := h.le_freeEnt
    omega
  next hkeep =>
    rcases h.width_le.lt_or_eq with hlt | heq
    · exact Nat.lt_of_not_le fun hle => hkeep ⟨hlt, hle⟩
    · rwa [heq]

theorem Coder.Fits.learn (h : k.Fits) (c : Byte) (hfree : k.freeEnt < 4096) : (k.learn c).Fits := by
  have hle := h.le_freeEnt
  have hnew : ValidCode (k.freeEnt + 1) k.freeEnt := ⟨Nat.lt_succ_self _, by omega, by omega⟩
  exact {
    le_freeEnt := Nat.le_succ_of_le hle, freeEnt_le := hfree, le_width := h.le_nextWidth, width_le := h.nextWidth_le
    freeEnt_fits := h.freeEnt_lt_nextWidth hfree
    ent_valid := (validCode_symbol c).mono (Nat.le_succ_of_le hle)
    dict_valid := List.forall_mem_cons.mpr ⟨hnew, fun e he => (h.dict_valid e he).mono (Nat.le_succ _)⟩ }

theorem Coder.Fits.found (h : k.Fits) {c : Byte} {code : Nat} (hfind : dictFind k.dict k.ent c = some code) :
    Coder.Fits { k with ent := code } :=
  { h with ent_valid := h.dict_valid _ (dictFind_mem hfind) }

theorem Coder.Fits.symbol (h : k.Fits) (c : Byte) : (k.symbol c).1.Fits := by
  cases hfind : dictFind k.dict k.ent c with
  | some code => rw [Coder.symbol_found hfind]; exact h.found hfind
  | none =>
    by_cases hfree : k.freeEnt < 4096
    · rw [Coder.symbol_learn hfind hfree]; exact h.learn c hfree
    · rw [Coder.symbol_full hfind hfree]; exact Coder.start_fits c

end

/-! ### LZW_Encode writes that stream -/

/-- The LZW state between two symbols. -/
structure Lzw.Coding (limit : Nat) (l : Lzw) : Prop where
  ready : l.Ready
  noClear : l.clearFlg = false
  fits : l.coder.Fits
  room : l.pkt.length < limit

section
variable {limit code : Nat} {l : Lzw} {c : Byte}

/-- An output before the last changes the width of the coder alone, and it has done with CLEAR_FLG. -/
theorem lzwOutput_coder (h : l.Ready) (hcode : code < 2 ^ l.nBits) (hne : code ≠ 257) :
    (lzwOutput limit code l).1.clearFlg = false ∧ (lzwOutput limit code l).1.coder
      = { l.coder with width := if l.clearFlg then 9 else grownWidth l.freeEnt l.nBits } := by
  rw [lzwOutput_of_ne_eoi hne]
  dsimp only
  rw [(h.pack hcode).width_eq, lzwPack_eq]
  exact ⟨rfl, rfl⟩

/-- The dictionary knows the longer string. -/
theorem lzwSymbol_found (h : dictFind l.dict l.ent c = some code) :
    lzwSymbol limit c l = ({ l with pos := l.pos + 1, ent := code }, []) := by
  simp only [lzwSymbol, h]

/-- The dictionary does not know the longer string, and there is a free code (R205). -/
theorem lzwSymbol_learn (h : dictFind l.dict l.ent c = none) (hfree : l.freeEnt < 4096) {r : Lzw × List Byte}
    (hr : lzwOutput limit l.ent { l with pos := l.pos + 1 } = r) : lzwSymbol limit c l
      = ({ r.1 with ent := c.toNat, dict := { pre := l.ent, suffix := c, code := r.1.freeEnt } :: r.1.dict
                    freeEnt := r.1.freeEnt + 1 }, r.2) := by
  subst hr
  simp only [lzwSymbol, h, lzwOutput_freeEnt]
  exact if_pos hfree

/-- The dictionary does not know the longer string, and all codes are in use (R206). -/
theorem lzwSymbol_full (h : dictFind l.dict l.ent c = none) (hfull : ¬ l.freeEnt < 4096) {r f : Lzw × List Byte}
    (hr : lzwOutput limit l.ent { l with pos := l.pos + 1 } = r)
    (hf : lzwOutput limit 256 { r.1 with ent := c.toNat, dict := [], freeEnt := 258, clearFlg := true } = f) :
    lzwSymbol limit c l = (f.1, r.2 ++ f.2) := by
  subst hr hf
  simp only [lzwSymbol, h, lzwOutput_freeEnt]
  exact if_neg hfull

/-- The pending code goes out at the current width. -/
theorem Lzw.Coding.output_pending (h : l.Coding limit) : Writes limit l l.coder.pendingBits (lzwOutput limit l.ent l)
    ∧ (lzwOutput limit l.ent l).1.Ready ∧ (lzwOutput limit l.ent l).1.clearFlg = false
    ∧ (lzwOutput limit l.ent l).1.coder = { l.coder with width := l.coder.nextWidth } := by
  have hlt : l.ent < 2 ^ l.nBits := h.fits.ent_lt
  have hne : l.ent ≠ 257 := h.fits.ent_valid.ne_eoi
  obtain ⟨hclear, hcoder⟩ := lzwOutput_coder (limit := limit) h.ready hlt hne
  rw [h.noClear] at hcoder
  exact ⟨lzwOutput_writes h.ready h.room hlt hne, lzwOutput_ready h.ready hlt, hclear, hcoder⟩

/-- A Clear goes out at the current width; where the dictionary is empty and the width becomes 9, the coder starts anew (R203,
R206). -/
theorem lzwOutput_clear (h : l.Ready) (hlt : l.pkt.length < limit)
    (hstart : { l.coder with width := if l.clearFlg then 9 else grownWidth l.freeEnt l.nBits } = Coder.start c) :
    (lzwOutput limit 256 l).1.Coding limit ∧ (lzwOutput limit 256 l).1.coder = Coder.start c
    ∧ Writes limit l (lsbBits l.nBits 256) (lzwOutput limit 256 l) := by
  have hfits : 256 < 2 ^ l.nBits := lt_two_pow_of_le_257 (by decide) h.le_nBits
  have hwrites := lzwOutput_writes h hlt hfits (by decide)
  obtain ⟨hclear, hcoder⟩ := lzwOutput_coder (limit := limit) h hfits (by decide)
  rw [hstart] at hcoder
  exact ⟨⟨lzwOutput_ready h hfits, hclear, hcoder ▸ Coder.start_fits c, hwrites.pkt_length_lt⟩, hcoder, hwrites⟩

/-- POS plays no part. -/
theorem Lzw.Coding.withPos (h : l.Coding limit) (p : Nat) : Lzw.Coding limit { l with pos := p } :=
  { h with ready := { h.ready with } }

/-- One symbol of LZW_Encode is one symbol of the coder, and its codes are written. -/
theorem lzwSymbol_codes (h : l.Coding limit) (c : Byte) : (lzwSymbol limit c l).1.Coding limit
    ∧ (lzwSymbol limit c l).1.coder = (l.coder.symbol c).1 ∧ Writes limit l (l.coder.symbol c).2 (lzwSymbol limit c l) := by
  cases hfind : dictFind l.dict l.ent c with
  | some code =>
    rw [lzwSymbol_found hfind, Coder.symbol_found (k := l.coder) hfind]
    exact ⟨{ h with ready := { h.ready with }, fits := h.fits.found hfind }, rfl, Writes.nil rfl rfl h.room⟩
  | none =>
    obtain ⟨hwrites, hready, hclear, hcoder⟩ := (h.withPos (l.pos + 1)).output_pending
    generalize hr : lzwOutput limit l.ent { l with pos := l.pos + 1 } = r at hwrites hready hclear hcoder
    obtain ⟨hdict, hfreeEnt, hwidth, -⟩ := Coder.mk.inj hcoder
    by_cases hfree : l.freeEnt < 4096
    · rw [lzwSymbol_learn hfind hfree hr, Coder.symbol_learn (k := l.coder) hfind hfree]
      have hlearn : Lzw.coder { r.1 with
          ent := c.toNat, dict := { pre := l.ent, suffix := c, code := r.1.freeEnt } :: r.1.dict, freeEnt := r.1.freeEnt + 1 }
          = l.coder.learn c := by
        rw [Lzw.coder, hdict, hfreeEnt, hwidth]
        rfl
      refine ⟨⟨{ hready with freeEnt_le := ?_ }, hclear, hlearn ▸ h.fits.learn c hfree, hwrites.pkt_length_lt⟩, hlearn, hwrites⟩
      rw [hfreeEnt]
      exact hfree
    · have hclearReady : Lzw.Ready { r.1 with ent := c.toNat, dict := [], freeEnt := 258, clearFlg := true } :=
        { hready with freeEnt_le := Nat.le_add_right 258 3838 }
      obtain ⟨hcoding, hstart, hclearWrites⟩ := lzwOutput_clear hclearReady hwrites.pkt_length_lt (c := c) rfl
      have hboth := hwrites.trans (r' := lzwOutput limit 256 _) hclearWrites
      rw [show r.1.nBits = l.coder.nextWidth from hwidth] at hboth
      rw [lzwSymbol_full hfind hfree hr rfl, Coder.symbol_full (k := l.coder) hfind hfree]
      exact ⟨hcoding, hstart, hboth⟩

/-- The loop writes the coder's stream up to the last pending code. -/
theorem lzwSymbols_stream (h : l.Coding limit) (cs : List Byte) : (lzwSymbols limit cs l).1.Coding limit
    ∧ ∃ bits, Writes limit l bits (lzwSymbols limit cs l)
      ∧ l.coder.stream cs = bits ++ (lzwSymbols limit cs l).1.coder.stream [] := by
  induction cs generalizing l with
  | nil => exact ⟨h, [], Writes.nil rfl rfl h.room, rfl⟩
  | cons c cs ih =>
    obtain ⟨hcoding, hcoder, hwrites⟩ := lzwSymbol_codes h c
    obtain ⟨hcoding', bits, hwrites', hstream⟩ := ih hcoding
    refine ⟨hcoding', _, hwrites.trans hwrites', ?_⟩
    rw [Coder.stream_cons, ← hcoder, hstream, List.append_assoc]
    rfl

/-- The last pending code and EOI end the stream. -/
theorem Lzw.Coding.closing_ends (h : l.Coding limit) : Ends limit l (l.coder.stream [])
    ((lzwOutput limit l.ent l).2 ++ (lzwOutput limit 257 (lzwOutput limit l.ent l).1).2) := by
  obtain ⟨hwrites, hready, -, hcoder⟩ := h.output_pending
  have hwidth : (lzwOutput limit l.ent l).1.nBits = l.coder.nextWidth := congrArg Coder.width hcoder
  have hend := lzwOutput_eoi_ends hready hwrites.pkt_length_lt (lt_two_pow_of_le_257 (le_refl _) hready.le_nBits)
  rw [hwidth] at hend
  exact hwrites.ends hend

/-- A stream that starts with nothing held is its padded bytes, cut into sub-blocks. -/
theorem Ends.eq_subBlocks {bits : List Bool} {out : List Byte} (h : Ends limit l bits out) (hbits : l.accBits = 0)
    (hpkt : l.pkt = []) :
    ∃ data, ∃ pad < 8, bitsOf data = bits ++ List.replicate pad false ∧ out = subBlocks limit data.length data := by
  obtain ⟨bytes, pkt, full, pad, hpad, hdata, ⟨blocks, hfull, hbytes, rfl, hlt⟩, rfl⟩ := h
  have hpending : l.pending = [] := by rw [Lzw.pending, hbits]; rfl
  rw [hpending, List.nil_append] at hdata
  rw [hpkt, List.nil_append] at hbytes
  subst hbytes
  exact ⟨_, pad, hpad, hdata.symm, (subBlocks_flatten hfull hlt le_rfl).symm⟩

/-- What a frame gives, after the opening Clear (R203): the bits of its codes, padded to whole bytes, in sub-blocks. -/
theorem lzwEncode_subBlocks (hpos : 1 ≤ limit) (idx : List Byte) (l : Lzw) :
    ∃ data, ∃ pad < 8, bitsOf data = frameBits idx ++ List.replicate pad false
      ∧ (lzwEncode limit idx l).2 = subBlocks limit data.length data := by
  obtain ⟨hcoding, hcoder, hopening⟩ := lzwOutput_clear (limit := limit) (c := idx.headD 0)
    (l := { lzwInit l with ent := (idx.headD 0).toNat, pos := 1 }) { lzwInit_ready l with } hpos rfl
  obtain ⟨hcoding', bits, hbody, hstream⟩ := lzwSymbols_stream hcoding idx.tail
  have hends := hopening.ends (hbody.ends hcoding'.closing_ends)
  rw [← hstream, hcoder] at hends
  rw [lzwEncode, List.append_assoc, List.append_assoc]
  exact hends.eq_subBlocks rfl rfl

end

/-- Settles O59: the bits of a frame's codes, padded, are the bits of one byte sequence only, whatever the sub-block length. -/
theorem subBlocksAreFullExceptLast : Obligations.SubBlocksAreFullExceptLast := by
  unfold Obligations.SubBlocksAreFullExceptLast
  intro idx l _
  obtain ⟨data, pad, hpad, hdata, -⟩ := lzwEncode_subBlocks (le_refl 1) idx l
  refine ⟨data, ?_, fun limit hpos _ => ?_⟩
  · rintro rfl
    have hlen := congrArg List.length hdata
    rw [frameBits, List.length_append, List.length_append, lsbBits_length, bitsOf_nil, List.length_nil] at hlen
    omega
  · obtain ⟨data', pad', hpad', hdata', hout⟩ := lzwEncode_subBlocks hpos idx l
    rw [hout, bytes_of_padded_bits_unique hpad' hpad hdata' hdata]

/-! ### The reader follows the coder, R216 -/

/-- The string of a code in a table of the strings from 258 on. -/
def codeString (table : List (List Byte)) (code : Nat) : Option (List Byte) :=
  if code < 256 then some [BitVec.ofNat 8 code] else if 258 ≤ code then table[code - 258]? else none

section
variable {table : List (List Byte)} {code : Nat} {s : List Byte}

theorem codeString_byte (table : List (List Byte)) (c : Byte) : codeString table c.toNat = some [c] := by
  rw [codeString, if_pos c.isLt, BitVec.ofNat_toNat, BitVec.setWidth_eq]

/-- A new string has the next code. -/
theorem codeString_concat (table : List (List Byte)) (s : List Byte) : codeString (table ++ [s]) (258 + table.length) = some s := by
  rw [codeString, if_neg (by omega), if_pos (by omega), Nat.add_sub_cancel_left, List.getElem?_concat_length]

/-- An old code keeps its string. -/
theorem codeString_append (h : codeString table code = some s) (more : List (List Byte)) :
    codeString (table ++ more) code = some s := by
  unfold codeString at h ⊢
  split_ifs at h ⊢
  · exact h
  · rwa [List.getElem?_append_left (List.getElem?_eq_some_iff.mp h).1]

end

section
variable {d : LzwReader} {k : Coder} {s p : List Byte} {c : Byte} {code : Nat}

theorem LzwReader.after_before (d : LzwReader) (s : List Byte) : (d.after s).before = some s := by
  unfold LzwReader.after
  split
  · rfl
  · split <;> rfl

theorem LzwReader.after_table_none (h : d.before = none) (s : List Byte) : (d.after s).table = d.table := by
  rw [LzwReader.after, h]

theorem LzwReader.after_table_some (h : d.before = some p) (hroom : 258 + d.table.length < 4096) (s : List Byte) :
    (d.after s).table = d.table ++ [p ++ s.take 1] := by
  simp only [LzwReader.after, h, if_pos hroom]

/-- Only the first symbol of the string matters for the table. -/
theorem LzwReader.after_table_congr {s' : List Byte} (h : s.take 1 = s'.take 1) (d : LzwReader) :
    (d.after s).table = (d.after s').table := by
  unfold LzwReader.after
  split
  · rfl
  · split <;> simp [h]

/-- The reader's width grows by R209's rule, at the size of its own table. -/
theorem LzwReader.after_width (hroom : 258 + d.table.length < 4096) (hfresh : d.before = none → d.table = [])
    (hwidth : 9 ≤ d.width) (hfits : 258 + (d.after s).table.length ≤ 2 ^ d.width) :
    (d.after s).width = grownWidth (258 + (d.after s).table.length) d.width := by
  cases hbefore : d.before with
  | none =>
    have h257 := lt_two_pow_of_le_257 (le_refl 257) hwidth
    have hpow : 2 ^ 9 ≤ 2 ^ d.width := Nat.pow_le_pow_right two_pos hwidth
    rw [LzwReader.after_table_none hbefore, hfresh hbefore, grownWidth, if_neg (by rw [List.length_nil]; omega),
      LzwReader.after, hbefore]
  | some p =>
    rw [LzwReader.after_table_some hbefore hroom] at hfits ⊢
    simp only [LzwReader.after, hbefore, if_pos hroom, grownWidth]
    exact if_congr (by omega) rfl rfl

/-- A code of the table is read as its string. -/
theorem LzwReader.stringOf_of_codeString (h : codeString d.table code = some s) : d.stringOf code = some s := by
  unfold codeString at h
  split_ifs at h with hbyte hcode
  · rwa [LzwReader.stringOf, if_pos hbyte]
  · rw [LzwReader.stringOf, if_neg hbyte, if_pos hcode, h]

/-- A code of the table that this very code completes is read as its string, also when it is the entry being completed: that
string is the one before and its own first symbol. -/
theorem LzwReader.stringOf_of_after (hroom : 258 + d.table.length < 4096) (hnonempty : ∀ p, d.before = some p → p ≠ [])
    (h : codeString (d.after s).table code = some s) : d.stringOf code = some s := by
  cases hbefore : d.before with
  | none =>
    rw [LzwReader.after_table_none hbefore] at h
    exact LzwReader.stringOf_of_codeString h
  | some p =>
    rw [LzwReader.after_table_some hbefore hroom] at h
    by_cases hnew : code = 258 + d.table.length
    · subst hnew
      have hs : p ++ s.take 1 = s := Option.some.inj ((codeString_concat _ _).symm.trans h)
      have hfirst : s.take 1 = p.take 1 := by
        obtain ⟨x, xs, rfl⟩ := List.exists_cons_of_ne_nil (hnonempty p hbefore)
        rw [← hs]
        rfl
      have hs' : p ++ p.take 1 = s := hfirst ▸ hs
      simp [LzwReader.stringOf, hbefore, hs', show ¬ 258 + d.table.length < 256 by omega]
    · refine LzwReader.stringOf_of_codeString ?_
      unfold codeString at h ⊢
      split_ifs at h ⊢ with hbyte hcode
      · exact h
      · have hlt := (List.getElem?_eq_some_iff.mp h).1
        rw [List.length_append, List.length_singleton] at hlt
        rwa [List.getElem?_append_left (by omega)] at h

/-- The reader `d` has read all codes put out so far, and the pending code of the coder `k` stands for `s`: the table that the
next code completes holds the strings of the coder's dictionary. -/
structure Follows (d : LzwReader) (k : Coder) (s : List Byte) : Prop where
  width : d.width = k.width
  room : 258 + d.table.length < 4096
  fresh : d.before = none → d.table = []
  before_ne_nil : ∀ p, d.before = some p → p ≠ []
  count : 258 + (d.after s).table.length = k.freeEnt
  ne_nil : s ≠ []
  spells : codeString (d.after s).table k.ent = some s
  dict : ∀ e ∈ k.dict, ∃ p, codeString (d.after s).table e.pre = some p
    ∧ codeString (d.after s).table e.code = some (p ++ [e.suffix])

/-- After a Clear both start anew. -/
theorem follows_start (c : Byte) : Follows LzwReader.cleared (Coder.start c) [c] :=
  { width := rfl, room := Nat.le_add_right 259 3837, fresh := fun _ => rfl, before_ne_nil := nofun, count := rfl
    ne_nil := List.cons_ne_nil _ _, spells := codeString_byte _ c, dict := nofun }

/-- The coder found the longer string: nothing was put out, and the pending string is one symbol longer. -/
theorem Follows.found (h : Follows d k s) (hfind : dictFind k.dict k.ent c = some code) :
    Follows d { k with ent := code } (s ++ [c]) := by
  have htable : (d.after (s ++ [c])).table = (d.after s).table :=
    LzwReader.after_table_congr (List.take_append_of_le_length (List.length_pos_of_ne_nil h.ne_nil)) d
  obtain ⟨p, hpre, hcode⟩ := h.dict _ (dictFind_mem hfind)
  obtain rfl : s = p := Option.some.inj (h.spells.symm.trans hpre)
  exact { h with
    count := htable ▸ h.count, ne_nil := List.append_ne_nil_of_left_ne_nil h.ne_nil _, spells := htable ▸ hcode
    dict := htable ▸ h.dict }

/-- The width at which the reader reads the code after the pending one is the coder's. -/
theorem Follows.after_width (h : Follows d k s) (hk : k.Fits) : (d.after s).width = k.nextWidth := by
  rw [LzwReader.after_width h.room h.fresh (h.width ▸ hk.le_width) (h.count ▸ h.width ▸ hk.freeEnt_fits), h.count, h.width]
  rfl

/-- The pending code was read, and the coder added the longer string, which the reader will complete with the next code. -/
theorem Follows.learn (h : Follows d k s) (hk : k.Fits) (hfree : k.freeEnt < 4096) (c : Byte) :
    Follows (d.after s) (k.learn c) [c] := by
  have hroom : 258 + (d.after s).table.length < 4096 := h.count.trans_lt hfree
  have htable : ((d.after s).after [c]).table = (d.after s).table ++ [s ++ [c]] :=
    LzwReader.after_table_some (LzwReader.after_before d s) hroom [c]
  refine { width := h.after_width hk, room := hroom, fresh := fun h0 => ?_, before_ne_nil := fun p hp => ?_, count := ?_
           ne_nil := List.cons_ne_nil _ _, spells := codeString_byte _ c, dict := List.forall_mem_cons.mpr ⟨?_, fun e he => ?_⟩ }
  · simp [LzwReader.after_before] at h0
  · rw [LzwReader.after_before] at hp
    exact Option.some.inj hp ▸ h.ne_nil
  · rw [htable, List.length_append, ← Nat.add_assoc, h.count]
    rfl
  · refine ⟨s, htable ▸ codeString_append h.spells _, ?_⟩
    dsimp only
    rw [htable, ← h.count]
    exact codeString_concat _ _
  · obtain ⟨p, hpre, hcode⟩ := h.dict e he
    exact ⟨p, htable ▸ codeString_append hpre _, htable ▸ codeString_append hcode _⟩

/-! ### The reader on one code -/

/-- The reader takes the first code off the stream. -/
theorem lzwRead_code (fuel : Nat) (hcode : code < 2 ^ d.width) (rest : List Bool) :
    lzwRead (fuel + 1) d (lsbBits d.width code ++ rest)
      = if code = 256 then lzwRead fuel LzwReader.cleared rest
        else if code = 257 then some []
        else (d.stringOf code).bind fun str => (lzwRead fuel (d.after str) rest).map (str ++ ·) := by
  have htake : (lsbBits d.width code ++ rest).take d.width = lsbBits d.width code := List.take_left' (lsbBits_length _ _)
  have hdrop : (lsbBits d.width code ++ rest).drop d.width = rest := List.drop_left' (lsbBits_length _ _)
  simp only [lzwRead, htake, hdrop, codeOfBits_lsbBits, Nat.mod_eq_of_lt hcode]
  rw [if_neg (by simp)]
  cases d.stringOf code <;> rfl

/-- The pending code is read as the pending string. -/
theorem Follows.read_pending (h : Follows d k s) (hk : k.Fits) (fuel : Nat) (rest : List Bool) :
    lzwRead (fuel + 1) d (k.pendingBits ++ rest) = (lzwRead fuel (d.after s) rest).map (s ++ ·) := by
  rw [Coder.pendingBits, ← h.width, lzwRead_code fuel (h.width ▸ hk.ent_lt), if_neg hk.ent_valid.ne_clear,
    if_neg hk.ent_valid.ne_eoi, LzwReader.stringOf_of_after h.room h.before_ne_nil h.spells]
  rfl

/-- The reader reads the pending string and the symbols that are left; what comes after EOI it does not look at. -/
theorem lzwRead_stream {fuel : Nat} {cs : List Byte} (h : Follows d k s) (hk : k.Fits) (hfuel : (k.stream cs).length ≤ fuel)
    (rest : List Bool) : lzwRead fuel d (k.stream cs ++ rest) = some (s ++ cs) := by
  induction cs generalizing d k s fuel with
  | nil =>
    rw [Coder.stream, Coder.pendingBits, List.length_append, lsbBits_length, lsbBits_length] at hfuel
    have hwidth := hk.le_width
    obtain ⟨n, rfl⟩ := Nat.exists_eq_add_of_le' (show 2 ≤ fuel by have := hk.le_nextWidth; omega)
    rw [Coder.stream, List.append_assoc, h.read_pending hk, ← h.after_width hk,
      lzwRead_code n (lt_two_pow_of_le_257 (le_refl 257) (h.after_width hk ▸ hk.le_nextWidth))]
    rfl
  | cons c cs ih =>
    rw [Coder.stream_cons] at hfuel ⊢
    have hfits := hk.symbol c
    cases hfind : dictFind k.dict k.ent c with
    | some code =>
      rw [Coder.symbol_found hfind] at hfuel hfits ⊢
      exact (ih (h.found hfind) hfits hfuel).trans (by rw [List.append_assoc]; rfl)
    | none =>
      have hpos : 9 ≤ k.pendingBits.length := hk.le_width.trans_eq (lsbBits_length _ _).symm
      by_cases hfree : k.freeEnt < 4096
      · rw [Coder.symbol_learn hfind hfree] at hfuel hfits ⊢
        simp only [List.length_append] at hfuel
        obtain ⟨n, rfl⟩ := Nat.exists_eq_add_of_le' (show 1 ≤ fuel by omega)
        rw [List.append_assoc, h.read_pending hk, ih (h.learn hk hfree c) hfits (by omega)]
        rfl
      · rw [Coder.symbol_full hfind hfree] at hfuel hfits ⊢
        simp only [List.length_append, lsbBits_length] at hfuel
        obtain ⟨n, rfl⟩ := Nat.exists_eq_add_of_le' (show 2 ≤ fuel by have := hk.le_nextWidth; omega)
        rw [List.append_assoc, List.append_assoc, h.read_pending hk, ← h.after_width hk,
          lzwRead_code n (lt_two_pow_of_le_257 (by decide) (h.after_width hk ▸ hk.le_nextWidth)), if_pos rfl,
          ih (follows_start c) hfits (by omega)]
        rfl

/-- The reader reads a frame's bits as the frame's indices. -/
theorem lzwRead_frameBits {fuel : Nat} (c : Byte) (cs : List Byte) (hfuel : (frameBits (c :: cs)).length ≤ fuel)
    (rest : List Bool) : lzwRead fuel LzwReader.cleared (frameBits (c :: cs) ++ rest) = some (c :: cs) := by
  rw [frameBits, List.length_append, lsbBits_length] at hfuel
  change 9 + ((Coder.start c).stream cs).length ≤ fuel at hfuel
  obtain ⟨n, rfl⟩ := Nat.exists_eq_add_of_le' (show 1 ≤ fuel by omega)
  have hclear := lzwRead_code (d := LzwReader.cleared) (code := 256) n (by decide)
    ((Coder.start c).stream cs ++ rest)
  rw [if_pos rfl] at hclear
  rw [frameBits, List.append_assoc]
  exact hclear.trans (lzwRead_stream (follows_start c) (Coder.start_fits c) (by omega) rest)

end

/-- Settles O60: the sub-blocks hold the padded bits of the frame's codes, and the reader follows the coder through them. -/
theorem compressionIsLossless : Obligations.CompressionIsLossless := by
  unfold Obligations.CompressionIsLossless
  intro limit idx l hpos hle hidx
  obtain ⟨c, cs, rfl⟩ := List.exists_cons_of_ne_nil hidx
  obtain ⟨data, pad, -, hdata, hout⟩ := lzwEncode_subBlocks hpos (c :: cs) l
  rw [hout, lzwDecodeFrame, deframe_subBlocks hpos hle le_rfl le_rfl, hdata]
  exact lzwRead_frameBits c cs (by rw [List.length_append]; exact Nat.le_add_right _ _) _

end Sys2Proof.Machine
end

section
/-! PROOFS of the container family (43_container.md): what every step keeps, every run keeps, and so the framing of a finished
OUT. -/

namespace Sys2Proof.Machine

/-- A run that takes a step and goes on to `u` has that step's next state between: a fault or a refusal would have ended it. -/
theorem run_succ_eq_next {M : Host.Core} {n : Nat} {s u : M.State} (h : M.run (n + 1) s = .next u) :
    ∃ t, M.step s = .next t ∧ M.run n t = .next u := by
  unfold Host.Core.run at h
  split at h
  case h_1 t hstep => exact ⟨t, hstep, h⟩
  case h_2 | h_3 => cases h

/-- What every step of a machine keeps, every run keeps. -/
theorem run_keeps {M : Host.Core} {P : M.State → Prop} (hP : ∀ s t, P s → M.step s = .next t → P t) {n : Nat} {s u : M.State}
    (hs : P s) (h : M.run n s = .next u) : P u := by
  induction n generalizing s with
  | zero => cases h; exact hs
  | succ n ih =>
    obtain ⟨t, hstep, hrest⟩ := run_succ_eq_next h
    exact ih (hP s t hs hstep) hrest

/-- Every run keeps the legal states. -/
theorem Inv.of_run {n : Nat} {s t : State} (hs : Inv s) (h : Sys2Proof.core.run n s = .next t) : Inv t :=
  run_keeps (M := Sys2Proof.core) stepKeepsLegalStates hs h

/-- Settles O36: the run ends in a legal state, and a legal state that is finished and dropped no byte has both ends in place. -/
theorem finishedOutputIsFramed : Obligations.FinishedOutputIsFramed := by
  intro s n t hs hrun hfinished hovf
  have ht : Inv t := hs.of_run hrun
  have hstarted : t.lifecycle ≠ .unconfigured := by rw [hfinished]; exact nofun
  exact ⟨ht.signatureFirst hstarted, ht.trailerLast hfinished hovf⟩

end Sys2Proof.Machine
end

section
/-! PROOFS of the setting commands (44_cmd_config.md): the common check and its two refusals, then each command's operands and
what it writes. -/

namespace Sys2Proof.Machine

/-! ### The common shape -/

/-- Every setting command is CheckSettable, then a range check, then one write. -/
theorem exec_eq_applySetting {i : Instr} (hi : i.isSetting = true) (s : State) :
    ∃ inRange write, exec i s = s.applySetting inRange write := by
  cases i with
  | configure | setQuality | setDelay | setFrameRate | setRepeat | setDisposal | setTransparent | setComment =>
    simp only [exec, execConfigure, execSetQuality, execSetDelay, execSetFrameRate, execSetRepeat, execSetDisposal,
      execSetTransparent, execSetComment]
    exact ⟨_, _, rfl⟩
  | nop | start | addFrame | finish | resetSession => cases hi

/-- Outside the settable states no operand is looked at: FATAL gives InvalidState, the lock or the end of the session
ConfigurationError. -/
theorem refusedUnlessSettable {i : Instr} (hi : i.isSetting = true) (s : State) : RefusedUnlessSettable i s := by
  obtain ⟨inRange, write, hexec⟩ := exec_eq_applySetting hi s
  rw [RefusedUnlessSettable, hexec]
  exact ⟨fun hf => applySetting_refused s inRange write (checkSettable_fatal s hf),
    fun hf hx => applySetting_refused s inRange write (checkSettable_frozen s hf hx)⟩

/-- Settles O6: in a settable state the range check alone decides between the write and the one report. -/
theorem settingsCompleteOrOnlyReport : Obligations.SettingsCompleteOrOnlyReport := by
  intro i s hi
  refine ⟨refusedUnlessSettable hi s, fun hs => ?_⟩
  have hcheck := checkSettable_of_settable s hs
  obtain ⟨inRange, write, hexec⟩ := exec_eq_applySetting hi s
  rw [hexec]
  cases inRange with
  | false => exact .inl (applySetting_outOfRange s write hcheck rfl)
  | true => exact .inr ⟨_, applySetting_completes s write hcheck rfl, rfl, rfl⟩

section
variable {s : State} {p : Prop} [Decidable p] {write : State → State}

/-- In a settable state, operands in range let the command write and complete. -/
theorem Settable.applySetting_completed (hs : Settable s) (hp : p) :
    s.applySetting (decide p) write = .next (completed (write s)) :=
  applySetting_completes s write (checkSettable_of_settable s hs) (decide_eq_true hp)

/-- In a settable state, operands out of range are reported and nothing is written. -/
theorem Settable.applySetting_raised (hs : Settable s) (hp : ¬ p) :
    s.applySetting (decide p) write = .next (raised .configurationError s) :=
  applySetting_outOfRange s write (checkSettable_of_settable s hs) (decide_eq_false hp)

end

/-! ### The commands that store an operand as it stands -/

/-- Settles O7: CONFIGURE's range check is the statement's, and it stores the low halves of both operands. -/
theorem configureSetsGeometry : Obligations.ConfigureSetsGeometry := by
  refine ⟨rfl, refusedUnlessSettable rfl, fun s hs => ?_⟩
  simp only [exec_configure, execConfigure, State.arg0U, State.arg1U, BitVec.ofNat_toNat]
  exact ⟨hs.applySetting_completed, fun hout => hs.applySetting_raised (by omega)⟩

/-- Settles O8: SET_QUALITY's range check is the statement's, and it stores the low five bits. -/
theorem setQualityStoresFactor : Obligations.SetQualityStoresFactor := by
  refine ⟨rfl, rfl, refusedUnlessSettable rfl, fun s hs => ?_⟩
  simp only [exec_setQuality, execSetQuality, State.arg0U, BitVec.ofNat_toNat]
  exact ⟨hs.applySetting_completed, fun hout => hs.applySetting_raised (by omega)⟩

/-- Settles O12: SET_DISPOSAL's range check is the statement's, and it stores the low three bits. -/
theorem setDisposalStoresCode : Obligations.SetDisposalStoresCode := by
  refine ⟨rfl, refusedUnlessSettable rfl, fun s hs => ?_⟩
  simp only [exec_setDisposal, execSetDisposal, State.arg0U, BitVec.ofNat_toNat]
  exact ⟨hs.applySetting_completed, fun hout => hs.applySetting_raised (by omega)⟩

/-- Settles O11: the s32 reading of ARG0 is its two's complement reading, and the 32 bits of that are ARG0 again. -/
theorem setRepeatStoresSignedCount : Obligations.SetRepeatStoresSignedCount := by
  refine ⟨rfl, refusedUnlessSettable rfl, fun s hs => ?_⟩
  simp only [exec_setRepeat, execSetRepeat, State.arg0S, s32_eq_toInt, BitVec.ofInt_toInt]
  exact ⟨hs.applySetting_completed, fun hout => hs.applySetting_raised (by omega)⟩

/-! ### The commands that compute DELAY -/

/-- The delay of a number of milliseconds fits 16 bits exactly up to 655354 ms (R287). -/
theorem centisecondsOfMs_le_iff (ms : Nat) : centisecondsOfMs ms ≤ 65535 ↔ ms ≤ 655354 := by
  unfold centisecondsOfMs fdiv
  omega

/-- No frame rate gives a delay above 100, the delay of one frame per second (R289). -/
theorem centisecondsOfFps_le {fps : Nat} (h : fps ≠ 0) : centisecondsOfFps fps ≤ 100 := by
  have hlt : (200 + fps) / (2 * fps) < 101 := (Nat.div_lt_iff_lt_mul (by omega)).mpr (by omega)
  exact Nat.le_of_lt_succ hlt

/-- A delay in range is stored in DELAY's 16 bits without loss. -/
theorem toNat_delay {cs : Nat} (h : cs ≤ 65535) : (BitVec.ofNat 16 cs).toNat = cs := by
  rw [BitVec.toNat_ofNat, Nat.mod_eq_of_lt (by omega)]

/-- Settles O9: the range check on the delay is one on the milliseconds. -/
theorem setDelayRoundsMilliseconds : Obligations.SetDelayRoundsMilliseconds := by
  refine ⟨rfl, refusedUnlessSettable rfl, fun s hs => ?_⟩
  have hrange := centisecondsOfMs_le_iff s.arg0.toNat
  simp only [exec_setDelay, execSetDelay, State.arg0U]
  refine ⟨fun hin => ?_, fun hout => hs.applySetting_raised (mt hrange.mp (Nat.not_le.mpr hout))⟩
  have hle := hrange.mpr hin
  exact ⟨_, toNat_delay hle, hs.applySetting_completed hle⟩

/-- Settles O10: every rate but 0 gives a delay of at most 100. -/
theorem setFrameRateRoundsPeriod : Obligations.SetFrameRateRoundsPeriod := by
  refine ⟨rfl, refusedUnlessSettable rfl, fun s hs => ?_⟩
  simp only [exec_setFrameRate, execSetFrameRate, State.arg0U]
  refine ⟨fun hne => ?_, fun hzero => hs.applySetting_raised (not_not.mpr (congrArg BitVec.toNat hzero))⟩
  have hle := centisecondsOfFps_le hne
  have hcs := toNat_delay (hle.trans (by decide))
  exact ⟨_, hcs, hcs.trans_le hle, hs.applySetting_completed hne⟩

/-! ### SET_TRANSPARENT -/

/-- Settles O13: ARG1 chooses between the two writes, and both check the colour. -/
theorem setTransparentSetsOrClears : Obligations.SetTransparentSetsOrClears := by
  refine ⟨rfl, refusedUnlessSettable rfl, fun s hs => ?_⟩
  rw [exec_setTransparent, execSetTransparent, ← BitVec.ofNat_toNat]
  refine ⟨fun ⟨hrgb, hset⟩ => ?_, fun ⟨hrgb, hclear⟩ => ?_, fun hout => ?_⟩
  · have harg : s.arg1U = 1 := congrArg BitVec.toNat hset
    rw [hs.applySetting_completed ⟨hrgb, harg.le⟩, if_pos harg, State.arg0U]
  · have harg : s.arg1U = 0 := congrArg BitVec.toNat hclear
    rw [hs.applySetting_completed ⟨hrgb, harg.trans_le (Nat.zero_le 1)⟩, if_neg (by omega)]
  · exact hs.applySetting_raised (by unfold State.arg0U State.arg1U; omega)

/-! ### SET_COMMENT -/

section
variable (s : State) {n k : Nat}

/-- COMMENT after the first `n` bytes of CMTBUF are copied into it (R295). -/
def copiedComment (n : Nat) : Memory := s.comment.storeBytes 0 ((List.range n).map s.cmtRead)

/-- A COMMENT byte below the length copied is the CMTBUF byte of its index. -/
theorem commentByte_copied (hk : k < n) : State.commentByte { s with comment := copiedComment s n } k = s.cmtRead k := by
  have hat := Memory.lookup_storeBytes_at ((List.range n).map s.cmtRead) s.comment 0 (i := k) (by simpa using hk)
  rw [Nat.zero_add] at hat
  simp [State.commentByte, copiedComment, hat]

/-- A COMMENT byte at or above the length copied stays. -/
theorem commentByte_notCopied (hk : n ≤ k) :
    State.commentByte { s with comment := copiedComment s n } k = s.commentByte k := by
  have habove := Memory.lookup_storeBytes_above ((List.range n).map s.cmtRead) s.comment (a := 0) (b := k) (by simpa using hk)
  simp only [State.commentByte, copiedComment, habove]

end

/-- Settles O14: COMMENT after the command is the copy, and the length of it fits COMMENT_LEN. -/
theorem setCommentCopiesStagedBytes : Obligations.SetCommentCopiesStagedBytes := by
  refine ⟨rfl, refusedUnlessSettable rfl, fun s hs => ?_⟩
  simp only [exec_setComment, execSetComment, State.arg0U, BitVec.ofNat_toNat]
  refine ⟨fun hin => ⟨_, hs.applySetting_completed hin, fun k hk => commentByte_copied s hk,
    fun k hk => commentByte_notCopied s hk, ?_, rfl⟩, fun hout => hs.applySetting_raised (by omega)⟩
  exact (BitVec.toNat_setWidth 8 s.arg0).trans (Nat.mod_eq_of_lt (by omega))

end Sys2Proof.Machine
end

section
/-! PROOFS of the session commands (45_cmd_session.md): the frame's bytes as 43_container.md lays them out, the checks of
ADD_FRAME, what each session command appends, and the settings once locked. -/

namespace Sys2Proof.Machine

/-! ### The blocks of a frame, byte by byte -/

/-- The two bytes of le16 are the remainder and the quotient by 256. -/
theorem le16_eq_fieldLE (v : BitVec 16) : le16 v = fieldLE v.toNat := by
  have hlow : v.extractLsb' 0 8 = BitVec.ofNat 8 (v.toNat % 256) := by simp [BitVec.toNat_eq]
  have hhigh : v.extractLsb' 8 8 = BitVec.ofNat 8 (v.toNat / 256) := by
    rw [BitVec.extractLsb', Nat.shiftRight_eq_div_pow]
  rw [le16, fieldLE, hlow, hhigh]

/-- The Netscape block carries the low half of REPEAT (R246, R247). -/
theorem netscapeBytes_eq (c : Settings) : netscapeBytes c =
    [0x21, 0xFF, 0x0B, 0x4E, 0x45, 0x54, 0x53, 0x43, 0x41, 0x50, 0x45, 0x32, 0x2E, 0x30, 0x03, 0x01]
      ++ fieldLE (c.loops.toNat % 65536) ++ [0x00] := by
  have hlow : (c.loops.extractLsb' 0 16).toNat = c.loops.toNat % 65536 := by simp
  rw [netscapeBytes, le16_eq_fieldLE, hlow]
  rfl

/-- DISPOSAL stands above the user input bit and TRANSP_EN (R249). -/
theorem gcePacked_eq (c : Settings) :
    gcePacked c = BitVec.ofNat 8 (c.disposal.toNat * 4 + (if c.transpEn then 1 else 0)) := by
  have hall : ∀ (disposal : BitVec 3) (en : Bool), (0 : BitVec 3) ++ disposal ++ (0 : BitVec 1) ++ BitVec.ofBool en
      = BitVec.ofNat 8 (disposal.toNat * 4 + (if en then 1 else 0)) := by decide
  exact hall c.disposal c.transpEn

/-- What only the first frame carries: LSD, GCT and, if REPEAT is not negative, the Netscape extension. -/
theorem firstFrameHeader_eq (s : State) : s.firstFrameHeader = headerBlocks s.cfg s.datapath.palette := by
  simp only [State.firstFrameHeader, headerBlocks, lsdBytes, le16_eq_fieldLE, netscapeBytes_eq, loopsWritten, s32_eq_toInt,
    decide_eq_true_eq]
  rfl

/-- The Comment Extension is written exactly when COMMENT_LEN is positive (R252). -/
theorem commentBlock_eq (c : Settings) (text : List Byte) : (if c.commentLen = 0 then [] else commentExtension c text)
    = if c.commentLen.toNat > 0 then [0x21, 0xFE, c.commentLen] ++ text ++ [0x00] else [] := by
  by_cases hlen : c.commentLen = 0
  · simp [hlen]
  · have hpos : c.commentLen.toNat > 0 := Nat.pos_of_ne_zero fun h => hlen (BitVec.eq_of_toNat_eq h)
    rw [if_neg hlen, if_pos hpos, commentExtension]

/-- The descriptor's packed byte announces a local colour table for a later frame, and the table follows (R254, R255). -/
theorem descriptorBytes_append (c : Settings) (first : Bool) (palette : List Byte) :
    descriptorBytes c first ++ (if first then [] else palette)
      = [0x2C, 0x00, 0x00, 0x00, 0x00] ++ fieldLE c.width.toNat ++ fieldLE c.height.toNat
        ++ (if first then [0x00] else 0x87 :: palette) := by
  have hpacked : descriptorPacked first = if first then 0x00 else 0x87 := by cases first <;> rfl
  rw [descriptorBytes, le16_eq_fieldLE c.width, le16_eq_fieldLE c.height, hpacked]
  cases first <;> rfl

/-- The blocks before the image data, in the order of R240. -/
theorem frameHeader_eq (s : State) (first : Bool) : s.frameHeader first
    = (if first then headerBlocks s.cfg s.datapath.palette else [])
      ++ frameBlocks first s.cfg s.datapath.palette s.commentBytes s.datapath.tidx := by
  rw [State.frameHeader, firstFrameHeader_eq, commentBlock_eq, gceBytes, gcePacked_eq, le16_eq_fieldLE]
  simp only [List.append_assoc, descriptorBytes_append, frameBlocks]

/-! ### ADD_FRAME -/

section
variable (s : State)

/-- Two sequences appended one after the other are one sequence, also where OUT is over its capacity. -/
theorem appendSeq_append (bs cs : List Byte) : (s.appendSeq bs).appendSeq cs = s.appendSeq (bs ++ cs) := by
  simp only [appendSeq_eq_foldl, List.foldl_append]

/-- The Image Data block is one sequence appended, and beside it only the LZW state is written. -/
theorem imageData_setDatapath (d : Datapath) :
    (s.setDatapath d).imageData
      = (s.appendSeq (imageDataBytes (lzwEncode s.prm.subblockMax d.indices d.lzw).2)).setDatapath
          { d with lzw := (lzwEncode s.prm.subblockMax d.indices d.lzw).1 } :=
  appendSeq_with_dp s _ _

/-- The bytes of one frame: the blocks before the image data, then the Image Data block. -/
def frameBytes : List Byte :=
  s.frameDatapath.frameHeader (!s.locked)
    ++ imageDataBytes (lzwEncode s.prm.subblockMax s.frameDatapath.datapath.indices s.frameDatapath.datapath.lzw).2

/-- A frame appends its bytes, and beside them only datapath state is written. -/
theorem framePipeline_eq_appendSeq : ∃ d, s.framePipeline = (s.appendSeq (frameBytes s)).setDatapath d := by
  have hheader (bs : List Byte) :
      s.frameDatapath.appendSeq bs = (s.appendSeq bs).setDatapath s.frameDatapath.datapath := appendSeq_with_dp s _ bs
  rw [framePipeline_eq, hheader, imageData_setDatapath, appendSeq_append, appendSeq_prm]
  exact ⟨_, rfl⟩

/-- FrameComplete and the command's end leave nothing of the datapath state before them. -/
theorem frameComplete_complete_setDatapath (d : Datapath) : (s.setDatapath d).frameComplete.complete
    = completed { s with frameCount := s.frameCount + 1, locked := true } := rfl

/-- An accepted frame appends its bytes, is counted and locks; the datapath state it wrote does not outlive the command. -/
theorem framePipeline_completed : s.framePipeline.frameComplete.complete
    = completed { s.appendSeq (frameBytes s) with frameCount := s.frameCount + 1, locked := true } := by
  obtain ⟨d, hpipeline⟩ := framePipeline_eq_appendSeq s
  rw [hpipeline, frameComplete_complete_setDatapath, appendSeq_frameCount]

/-- The frame's bytes are the blocks of R240, built from the frame's own palette, indices and transparent index. -/
theorem frameBytes_eq : frameBytes s
    = (if s.locked then [] else headerBlocks s.cfg s.frameDatapath.datapath.palette)
      ++ frameBlocks (!s.locked) s.cfg s.frameDatapath.datapath.palette s.commentBytes s.frameDatapath.datapath.tidx
      ++ [0x08] ++ (lzwEncode s.prm.subblockMax s.frameDatapath.datapath.indices s.frameDatapath.datapath.lzw).2
      ++ [0x00] := by
  have hcomment : s.frameDatapath.commentBytes = s.commentBytes := by rw [frameDatapath_eq]; rfl
  have hfirst : (if (!s.locked) = true then headerBlocks s.cfg s.frameDatapath.datapath.palette else [])
      = if s.locked then [] else headerBlocks s.cfg s.frameDatapath.datapath.palette := by cases s.locked <;> rfl
  rw [frameBytes, frameHeader_eq, frameDatapath_cfg, hcomment, hfirst, imageDataBytes]
  simp only [List.append_assoc]
  rfl

variable {s}

/-- The first check of ADD_FRAME (R312). -/
theorem execAddFrame_invalidState (h : s.fatal = true ∨ s.lifecycle ≠ .started) :
    execAddFrame s = .next (s.raise .invalidState) := if_pos h

/-- In STARTED without FATAL, ADD_FRAME comes to its second check. -/
theorem execAddFrame_started (hf : s.fatal = false) (hl : s.lifecycle = .started) : execAddFrame s
    = if s.arg1U ≠ 0 then .next (s.raise .invalidInputType)
      else if ¬ s.geomSet then .next (s.raise .configurationError)
      else if s.arg0U ≠ 4 * s.cfg.pixels then .next (s.dimensionMismatchAction.raise .dimensionMismatch)
      else .next s.framePipeline.frameComplete.complete := by
  rw [execAddFrame, if_neg (by simp [hf, hl])]

/-- With format 0 and the geometry set, the length of the frame decides. -/
theorem execAddFrame_length (hf : s.fatal = false) (hl : s.lifecycle = .started) (hfmt : s.arg1 = 0)
    (hg : s.geomSet = true) : execAddFrame s
    = if s.arg0U ≠ 4 * s.cfg.pixels then .next (s.dimensionMismatchAction.raise .dimensionMismatch)
      else .next s.framePipeline.frameComplete.complete := by
  rw [execAddFrame_started hf hl, if_neg (by simp [State.arg1U, hfmt]), if_neg (by simp [hg])]

end

/-- Settles O17: one check after the other, each with the earlier ones passed. -/
theorem addFrameChecksInOrder : Obligations.AddFrameChecksInOrder := by
  refine fun s => ⟨execAddFrame_invalidState, fun hf hl hfmt => ?_, fun hf hl hfmt hg => ?_⟩
  · have hfmtU : s.arg1U ≠ 0 := fun h => hfmt (BitVec.eq_of_toNat_eq h)
    exact (execAddFrame_started hf hl).trans (if_pos hfmtU)
  · rw [exec_addFrame, execAddFrame_started hf hl, if_neg (by simp [State.arg1U, hfmt]), if_pos (by simp [hg]), raised_eq]

/-- Settles O18: the bytes are the draw DM_TAIL, and the count of draws is one higher for it. -/
theorem dimensionMismatchAppendsTail : Obligations.DimensionMismatchAppendsTail := by
  intro s hf hl hfmt hg hlen
  have hlenU : s.arg0U ≠ 4 * s.cfg.pixels := hlen
  refine ⟨Config.dmTail s.draws, s.draws + 1, ?_⟩
  rw [exec_addFrame, execAddFrame_length hf hl hfmt hg, if_pos hlenU, State.dimensionMismatchAction, appendSeq_eq_foldl,
    raised_eq]

/-- Settles O19: the accepted frame appends its bytes, and those are the blocks of R240. -/
theorem addFrameAppendsFrameBlocks : Obligations.AddFrameAppendsFrameBlocks := by
  refine ⟨rfl, fun s ⟨hf, hl, hfmt, hg, hlen⟩ => ?_⟩
  have hlenU : s.arg0U = 4 * s.cfg.pixels := hlen
  rw [exec_addFrame, execAddFrame_length hf hl hfmt hg, if_neg (not_not.mpr hlenU), framePipeline_completed,
    appendSeq_eq_foldl, frameBytes_eq]

/-! ### NOP, START, FINISH, RESET_SESSION -/

/-- Settles O15: NOP is `complete` and nothing before it. -/
theorem nopOnlyClearsReport : Obligations.NopOnlyClearsReport :=
  ⟨rfl, fun s => by rw [exec_nop, completed_eq]⟩

/-- Settles O16: FATAL is looked at first, then STATE chooses the arm. -/
theorem startWritesSignatureOnce : Obligations.StartWritesSignatureOnce := by
  refine ⟨rfl, fun s => ⟨fun hf hl => ?_, fun hf hl => ?_, fun href => ?_⟩⟩
  · rw [← appendSeq_eq_foldl]
    simp [execStart, hf, hl, gifSignature, completed_eq]
  · simp [execStart, hf, hl, completed_eq]
  · rcases href with hf | hl
    · simp [execStart, hf, raised_eq]
    · simp [execStart, hl, raised_eq]

/-- Settles O20: one check decides between the trailer and the report. -/
theorem finishWritesTrailer : Obligations.FinishWritesTrailer := by
  refine ⟨rfl, fun s => ⟨fun hf hl => ?_, fun href => ?_⟩⟩
  · rw [exec_finish, execFinish, if_neg (by simp [hf, hl]), gifTrailer, completed_eq]
  · rw [exec_finish, execFinish, if_pos href, raised_eq]

/-- Settles O21: SessionReset writes the initial settings and every session field, then `complete` draws the datapath state. -/
theorem resetSessionRestoresFreshSession : Obligations.ResetSessionRestoresFreshSession :=
  ⟨rfl, fun s => by rw [exec_resetSession, complete_def, State.sessionReset, Settings.initial]⟩

/-! ### The end of a session, and its locked settings -/

/-- Settles O27: FINISHED is outside STARTED for the session commands and frozen for the setting commands. -/
theorem finishedRefusesTheRest : Obligations.FinishedRefusesTheRest := by
  intro i s hf hl
  have hne : s.lifecycle ≠ .started := by rw [hl]; exact nofun
  refine ⟨?_, fun hi => (refusedUnlessSettable hi s).2 hf (.inr hl), ?_, ?_⟩
  · rintro (rfl | rfl | rfl)
    · exact (startWritesSignatureOnce.2 s).2.2 (.inr hl)
    · exact (addFrameChecksInOrder s).1 (.inr hne)
    · exact (finishWritesTrailer.2 s).2 (.inr hne)
  · rintro rfl
    exact nopOnlyClearsReport.2 s
  · rintro rfl
    exact ⟨_, exec_resetSession s, rfl, rfl⟩

section
variable {s t : State} {i : Instr}

/-- No command but a setting command and RESET_SESSION writes a setting, GEOM_SET or COMMENT. -/
theorem CommandEnd.settings (h : CommandEnd i s t) (hset : i.isSetting = false) (hi : i ≠ .resetSession) :
    t.cfg = s.cfg ∧ t.geomSet = s.geomSet ∧ t.comment = s.comment := by
  cases h with
  | raises | completes => exact ⟨rfl, rfl, rfl⟩
  | sets _ _ _ hs => rw [hs] at hset; cases hset
  | starts => simp
  | mismatches => simp [State.dimensionMismatchAction]
  | addsFrame => simp [framePipeline_eq]
  | finishes => simp
  | resets => contradiction

/-- A locked session refuses every setting command. -/
theorem exec_setting_locked (hset : i.isSetting = true) (hlocked : s.locked = true) :
    ∃ e, exec i s = .next (raised e s) := by
  obtain ⟨hfatal, hfrozen⟩ := refusedUnlessSettable hset s
  cases hf : s.fatal with
  | true => exact ⟨_, hfatal hf⟩
  | false => exact ⟨_, hfrozen hf (.inl hlocked)⟩

/-- The configured comment is COMMENT below COMMENT_LEN; a byte nobody wrote depends on the power-on count alone. -/
theorem commentBytes_congr (hcfg : t.cfg = s.cfg) (hc : t.comment = s.comment) (he : t.epoch = s.epoch) :
    t.commentBytes = s.commentBytes := by
  rw [State.commentBytes, State.commentBytes, hcfg]
  exact List.map_congr_left fun k _ => commentByte_congr hc he k

end

/-- Settles O30: a setting command is refused once locked, and the rest of the commands write no setting. -/
theorem settingsFrozenOnceLocked : Obligations.SettingsFrozenOnceLocked := by
  intro i s t h hreset hlocked
  cases hset : i.isSetting with
  | true =>
    have hlocked : s.locked = true := hlocked.resolve_right (by rintro rfl; cases hset)
    obtain ⟨e, hraised⟩ := exec_setting_locked hset hlocked
    rw [hraised] at h
    cases h
    exact ⟨rfl, rfl, rfl⟩
  | false =>
    have hend := exec_commandEnd h
    obtain ⟨hcfg, hgeom, hcomment⟩ := hend.settings hset hreset
    obtain ⟨-, -, -, -, hepoch, -⟩ := hend.hostSide
    exact ⟨hcfg, hgeom, commentBytes_congr hcfg hcomment hepoch⟩

end Sys2Proof.Machine
end

section
/-! PROOFS of the exceptions family (60_exceptions.md): every command and every step answers a next state, what a command
reports, and what FATAL lets through. -/

namespace Sys2Proof.Machine

/-! ### Nothing stops the core -/

section
variable (s : State)

/-- CheckSettable and the range check choose between three next states. -/
theorem applySetting_goesOn (inRange : Bool) (write : State → State) : ∃ t, s.applySetting inRange write = .next t := by
  cases hcheck : s.checkSettable with
  | some e => exact ⟨_, applySetting_refused s inRange write hcheck⟩
  | none =>
    cases inRange with
    | true => exact ⟨_, applySetting_completes s write hcheck rfl⟩
    | false => exact ⟨_, applySetting_outOfRange s write hcheck rfl⟩

/-- START answers a next state in each lifecycle state, FATAL or not. -/
theorem execStart_goesOn : ∃ t, execStart s = .next t := by
  unfold execStart
  split
  · exact ⟨_, rfl⟩
  · split <;> exact ⟨_, rfl⟩

/-- ADD_FRAME answers a next state whichever check fails, and where none does. -/
theorem execAddFrame_goesOn : ∃ t, execAddFrame s = .next t := by
  simp only [execAddFrame, ← apply_ite Host.Outcome.next]
  exact ⟨_, rfl⟩

/-- FINISH answers a next state, refused or not. -/
theorem execFinish_goesOn : ∃ t, execFinish s = .next t := by
  simp only [execFinish, ← apply_ite Host.Outcome.next]
  exact ⟨_, rfl⟩

/-- Every command in every state answers a next state (R346). -/
theorem exec_goesOn (i : Instr) : ∃ t, exec i s = .next t := by
  cases hset : i.isSetting with
  | true =>
    obtain ⟨inRange, write, hexec⟩ := exec_eq_applySetting hset s
    rw [hexec]
    exact applySetting_goesOn s inRange write
  | false =>
    cases i with
    | nop => exact ⟨_, exec_nop s⟩
    | start => exact execStart_goesOn s
    | addFrame => exact execAddFrame_goesOn s
    | finish => exact execFinish_goesOn s
    | resetSession => exact ⟨_, exec_resetSession s⟩
    | configure | setQuality | setDelay | setFrameRate | setRepeat | setDisposal | setTransparent | setComment => cases hset

end

/-- Settles O5: a step runs a command, does the illegal-command action or serves the host, and none of the three can stop. -/
theorem everyStepGoesOn : Obligations.EveryStepGoesOn := by
  refine ⟨fun i s => exec_goesOn s i, fun s => ?_⟩
  obtain ⟨hcommand, hillegal, hwaits, hidle⟩ := stepRunsCommandInFlight
  rcases hx : s.executing with _ | ⟨w, _ | k⟩
  · exact ⟨_, hidle s hx⟩
  · cases hd : decode w with
    | command i =>
      rw [hcommand s w i hx hd]
      exact exec_goesOn s i
    | illegal why => exact ⟨_, hillegal s w why hx hd⟩
  · exact ⟨_, hwaits s w k hx⟩

/-! ### The report of a command -/

/-- What a command reports: it completes, or raises one of three errors on the state it found, or is the ADD_FRAME that raises
DimensionMismatch (R345, R316). -/
theorem CommandEnd.report {i : Instr} {s t : State} (h : CommandEnd i s t) :
    (∃ u : State, t = u.complete)
      ∨ (∃ e, (e = .configurationError ∨ e = .invalidState ∨ e = .invalidInputType) ∧ t = s.raise e)
      ∨ t = s.dimensionMismatchAction.raise .dimensionMismatch := by
  cases h with
  | raises e _ he => exact .inr (.inl ⟨e, he, rfl⟩)
  | mismatches => exact .inr (.inr rfl)
  | completes | sets | starts | addsFrame | finishes | resets => exact .inl ⟨_, rfl⟩

/-- Settles O28: the one raise that is preceded by an action is the DimensionMismatch, which the statement excludes. -/
theorem failedCommandChangesOnlyReport : Obligations.FailedCommandChangesOnlyReport := by
  intro i s t h
  rcases (exec_commandEnd h).report with ⟨u, rfl⟩ | ⟨e, he, rfl⟩ | rfl
  · exact ⟨by simp, nofun⟩
  · have hnone : e ≠ .none := by rintro rfl; simp at he
    exact ⟨by simp [hnone], fun _ _ => (raised_eq s e).symm⟩
  · exact ⟨by simp, fun _ hne => absurd rfl hne⟩

/-- FATAL after a command was there before it: RESET_SESSION clears it and no other command changes it. -/
theorem fatal_before_of_fatal_after {i : Instr} {s t : State} (h : exec i s = .next t) (hf : t.fatal = true) :
    s.fatal = true := by
  obtain ⟨hkeeps, hclears⟩ := stickyBitsClearedOnlyByReset i s t h
  by_cases hi : i = .resetSession
  · obtain ⟨-, -, hcleared, -⟩ := hclears hi
    rw [hcleared] at hf
    cases hf
  · obtain ⟨-, -, hsame, -⟩ := hkeeps hi
    rwa [← hsame]

/-- Settles O29: codes 2 and 3 are not among the reports, and FATAL is written by RESET_SESSION alone, which clears it. -/
theorem fatalCodesHaveNoTrigger : Obligations.FatalCodesHaveNoTrigger := by
  intro i s t h
  have hfatal : t.fatal = true → s.fatal = true := fatal_before_of_fatal_after h
  rcases (exec_commandEnd h).report with ⟨u, rfl⟩ | ⟨e, rfl | rfl | rfl, rfl⟩ | rfl <;> exact ⟨nofun, nofun, hfatal⟩

/-! ### While FATAL = 1 -/

/-- FATAL is the first check of every command but NOP and RESET_SESSION (R349, R343). -/
theorem exec_of_fatal {i : Instr} {s : State} (hf : s.fatal = true) (hnop : i ≠ .nop) (hreset : i ≠ .resetSession) :
    exec i s = .next (raised .invalidState s) := by
  cases i with
  | nop | resetSession => contradiction
  | configure | setQuality | setDelay | setFrameRate | setRepeat | setDisposal | setTransparent | setComment =>
    exact (refusedUnlessSettable rfl s).1 hf
  | start =>
    obtain ⟨-, -, hrefused⟩ := startWritesSignatureOnce.2 s
    exact hrefused (.inl hf)
  | addFrame => exact (addFrameChecksInOrder s).1 (.inl hf)
  | finish => exact (finishWritesTrailer.2 s).2 (.inl hf)

/-- A word that is no command only reports, in every state (R347). -/
theorem runCommand_illegal {w : Word} {why : Reject} (hd : decode w = .illegal why) (s : State) :
    runCommand w s = .next (raised .illegalCommand s) := by
  simp only [runCommand, hd]
  rfl

/-- Settles O26: FATAL is looked at first, NOP looks at nothing, and RESET_SESSION clears FATAL. -/
theorem fatalGatesEveryCommand : Obligations.FatalGatesEveryCommand := by
  refine ⟨fun i s hf => ⟨exec_of_fatal hf, ?_, ?_⟩, fun s w why hd => runCommand_illegal hd s⟩
  · rintro rfl
    exact nopOnlyClearsReport.2 s
  · rintro rfl
    exact ⟨_, exec_resetSession s, rfl, rfl, rfl⟩

end Sys2Proof.Machine
end

section
/-! PROOFS of the reset and hazards family (70_reset_and_hazards.md): what power-on reset leaves, and that a command in flight
ends. -/

namespace Sys2Proof.Machine

/-! ### Power-on reset -/

/-- Power-on reset gives the state after reset, but for the parameters, the host port and the counters of draws (R370, R371). -/
theorem powerOn_eq_reset (s : State) : s.powerOn =
    { State.reset with
      prm := s.prm, dp := .draw s.draws, epoch := s.epoch + 1, draws := s.draws + 1, latencies := s.latencies,
      program := s.program, response := s.response, expectOk := s.expectOk } := rfl

/-- STATUS after reset shows RESULT alone (R371). -/
theorem statusWord_reset : State.reset.statusWord = 0x00000002 := by decide

/-- After power-on reset STATUS reads as after reset: no parameter, draw or host operation shows in it. -/
theorem powerOn_statusWord (s : State) : s.powerOn.statusWord = 0x00000002 :=
  calc s.powerOn.statusWord = State.reset.statusWord := by rw [powerOn_eq_reset]; rfl
    _ = 0x00000002 := statusWord_reset

/-- After power-on reset ERRCODE reads 0, the code of no error (R371, 60_exceptions.md R340). -/
theorem powerOn_errcodeWord (s : State) : s.powerOn.errcodeWord = 0 := by
  rw [State.errcodeWord, powerOn_errcode]
  decide

/-- Settles O22: the state's own fields by `powerOn_eq_reset`, the words made of them by the lemmas above, and those of the reset
settings by evaluation. -/
theorem powerOnResetsEveryRegister : Obligations.PowerOnResetsEveryRegister := by
  intro s
  refine ⟨s.powerOn, rfl, powerOn_statusWord s, powerOn_errcodeWord s, ?_⟩
  rw [powerOn_eq_reset]
  exact ⟨rfl, rfl, rfl, rfl, rfl, rfl, rfl, rfl, rfl, rfl, statusWord_reset, by decide⟩

/-! ### A command in flight ends -/

/-- The core stands as it was after no step. -/
theorem SameCore.refl (s : State) : SameCore s s := by simp [SameCore]

/-- The core stands as it was through two stretches if it does through each. -/
theorem SameCore.trans {s t u : State} (hst : SameCore s t) (htu : SameCore t u) : SameCore s u := by
  simp_all [SameCore]

/-- What is left of the host's list after an operation: WAIT may put itself back and READ_OUT puts reads in front, and nothing
puts in a power-on reset (30_encoding.md R104, R109). -/
theorem serve_program (s : State) (op : BusOp) :
    ∃ issued, BusOp.powerOnReset ∉ issued ∧ (s.serve op).program = issued ++ s.program := by
  cases op with
  | write off n v =>
    refine ⟨[], nofun, ?_⟩
    rcases busWrite_cases s off n v with h | ⟨-, -, h⟩ | ⟨-, -, h⟩ | ⟨-, -, h⟩ | ⟨-, -, h⟩ <;> rw [State.serve, h] <;> rfl
  | read off n =>
    obtain ⟨d, hd⟩ := busRead_frame s off n
    exact ⟨[], nofun, by rw [State.serve, answered, hd]; rfl⟩
  | wait =>
    obtain ⟨d, hd⟩ := busRead_frame s 0x014 4
    simp only [State.serve, answered, hd]
    split
    · exact ⟨[.wait], by decide, rfl⟩
    · exact ⟨[], nofun, rfl⟩
  | readOut =>
    obtain ⟨d, hd⟩ := busRead_frame s 0x01C 4
    simp only [State.serve, answered, hd]
    split
    case h_1 n _ => exact ⟨readsOfOut n.toNat, by simp [readsOfOut], rfl⟩
    case h_2 | h_3 => exact ⟨[], nofun, rfl⟩
  | expect | powerOnReset => exact ⟨[], nofun, rfl⟩

section
variable {s : State} {w : Word} {k : Nat}

/-- Serving the host brings no power-on reset into its list. -/
theorem hostStep_keeps_noPowerOnReset (h : BusOp.powerOnReset ∉ s.program) : BusOp.powerOnReset ∉ s.hostStep.program := by
  rcases hostStep_cases s with ⟨-, hs⟩ | ⟨op, rest, hp, hs⟩
  · rwa [hs]
  · obtain ⟨issued, hissued, hprog⟩ := serve_program { s with program := rest } op
    have hrest : BusOp.powerOnReset ∉ rest := fun hmem => h (hp ▸ List.mem_cons_of_mem op hmem)
    rw [hs, hprog]
    exact List.not_mem_append hissued hrest

/-- One operation of the host while a command is in flight and not due: the command comes one nearer to its end, the core
stands, and no power-on reset has come into the list. -/
theorem step_waits (hx : s.executing = some { word := w, remaining := k + 1 }) (hp : BusOp.powerOnReset ∉ s.program) :
    ∃ t, step s = .next t ∧ SameCore s t ∧ t.executing = some { word := w, remaining := k }
      ∧ BusOp.powerOnReset ∉ t.program := by
  obtain ⟨-, -, hserves, -⟩ := stepRunsCommandInFlight
  have hstep := hserves s w k hx
  obtain ⟨hsame, hexec, -⟩ := nothingChangesWhileBusy s _ w k hx (fun h => hp (List.mem_of_head? h)) hstep
  exact ⟨_, hstep, hsame, hexec, hostStep_keeps_noPowerOnReset hp⟩

/-- A run of as many steps as the latency brings a command in flight to its end, with the core as it was (R384). -/
theorem run_latency (hx : s.executing = some { word := w, remaining := k }) (hp : BusOp.powerOnReset ∉ s.program) :
    ∃ t : State, Sys2Proof.core.run k s = .next t ∧ SameCore s t ∧ t.executing = some { word := w, remaining := 0 } := by
  induction k generalizing s with
  | zero => exact ⟨s, rfl, .refl s, hx⟩
  | succ k ih =>
    obtain ⟨t, hstep, hst, ht, htp⟩ := step_waits hx hp
    obtain ⟨u, hrun, htu, hu⟩ := ih ht htp
    exact ⟨u, (run_succ Sys2Proof.core k hstep).trans hrun, hst.trans htu, hu⟩

/-- The step of a word that is due ends it, command or not: BUSY falls (10_state.md R27). -/
theorem step_due_falls (hx : s.executing = some { word := w, remaining := 0 }) :
    ∃ u, step s = .next u ∧ u.busy = false := by
  obtain ⟨hcommand, hillegal, -, -⟩ := stepRunsCommandInFlight
  cases hd : decode w with
  | command i =>
    obtain ⟨u, hu⟩ := exec_goesOn s i
    obtain ⟨-, -, -, -, -, -, -, -, hnone⟩ := commandsNeverWriteHostSide i s u hu
    exact ⟨u, (hcommand s w i hx hd).trans hu, by rw [State.busy, hnone]; rfl⟩
  | illegal why => exact ⟨_, hillegal s w why hx hd, rfl⟩

end

/-- Settles O45: the command waits its latency out, by induction on it, and the step after that ends it. -/
theorem commandEndsInFiniteTime : Obligations.CommandEndsInFiniteTime := by
  intro s w k hx hp
  obtain ⟨t, hrun, hsame, hdue⟩ := run_latency hx hp
  obtain ⟨u, hstep, hbusy⟩ := step_due_falls hdue
  exact ⟨t, u, hrun, hsame, hdue, hstep, hbusy⟩

end Sys2Proof.Machine
end
